-- ==== Sys2Proof/Word.lean ====
section
/-! DEFINITION. The word types of the machine: an 8-bit byte for registers and memory cells, a 16-bit word for bus
addresses and `PC`, and the 15-bit VRAM address of the PPU (00_scope.md R5, R6). Arithmetic on them is the wrapping
arithmetic of bit vectors, which is the reduction `mod 256` and `mod 65536` of R6. -/

namespace Sys2Proof

/-- A register or memory byte (R5: CPU data width 8). -/
abbrev Byte := BitVec 8

/-- A bus address or the program counter (R5: CPU address width 16). -/
abbrev Word := BitVec 16

/-- A VRAM address, the width of `V` and `T` (R42, R43). -/
abbrev VAddr := BitVec 15

end Sys2Proof
end

