-- ==== Sys2Proof/Machine/Bits.lean ====
section
/-! DEFINITION. The bit-field, byte-order and extension helpers every other file uses (00_scope.md R6, 20_memory.md R71). -/

namespace Sys2Proof.Machine

/-- `hi:lo`, the 16-bit concatenation of R6. -/
def joinBytes (hi lo : Byte) : Word := hi ++ lo

/-- `v[15:8]`. -/
def hiByte (v : Word) : Byte := v.extractLsb' 8 8

/-- `v[7:0]`. -/
def loByte (v : Word) : Byte := v.extractLsb' 0 8

/-- `zext_16` (R6). -/
def zext16 (v : Byte) : Word := v.setWidth 16

/-- `sext_16` (R6): "if bit 7 set, OR with 0xFF00". -/
def sext16 (v : Byte) : Word := if v.getLsbD 7 then zext16 v ||| 0xFF00#16 else zext16 v

/-- The next address within the same page, `(p & 0xFF00) | ((p + 1) & 0x00FF)` (R148). -/
def nextInPage (p : Word) : Word := (p &&& 0xFF00#16) ||| ((p + 1#16) &&& 0x00FF#16)

/-- Two addresses lie in different pages: their high bytes differ (R6, R146, R166). -/
def pagesDiffer (u v : Word) : Bool := hiByte u != hiByte v

/-- The bus address of the stack cell an `SP` value names, `0x0100 | zext_16(SP)` (R23). -/
def stackAddr (sp : Byte) : Word := 0x0100#16 ||| zext16 sp

/-- A one-bit value as a byte, `zext_8` of a bit. -/
def bitByte (b : Bool) : Byte := if b then 0x01#8 else 0x00#8

end Sys2Proof.Machine
end

