-- ==== Sys2Proof/Syntax.lean ====
section
/-! DEFINITION. The instructions: one constructor per row of spec/opcode_table.json, the 151 legal opcodes (30_encoding.md
R115, R116) named by mnemonic and format, and the 105 gaps (R121) named by their opcode byte. An operand is carried as the
bytes of R113 give it: `m` an immediate byte, `z` a zero-page byte, `addr` a 16-bit address, `off` a branch offset byte. -/

namespace Sys2Proof

/-- The 56 mnemonics of R116. -/
inductive Mnemonic where
  | adc | and | asl | bcc | bcs | beq | bit | bmi | bne | bpl | brk | bvc | bvs | clc
  | cld | cli | clv | cmp | cpx | cpy | dec | dex | dey | eor | inc | inx | iny | jmp
  | jsr | lda | ldx | ldy | lsr | nop | ora | pha | php | pla | plp | rol | ror | rti
  | rts | sbc | sec | sed | sei | sta | stx | sty | tax | tay | tsx | txa | txs | tya
  deriving DecidableEq, Repr

/-- The formats of R111. -/
inductive Format where
  | imp | acc | imm | zp | zpx | zpy | abs | abx | aby | ind | izx | izy | rel
  deriving DecidableEq, Repr

/-- The operand of an instruction with the format that says how it is used (R111, R113). -/
inductive Operand where
  /-- implied: no operand -/
  | imp
  /-- the accumulator form -/
  | acc
  /-- immediate -/
  | imm (m : Byte)
  /-- zeropage -/
  | zp (z : Byte)
  /-- zeropage-X -/
  | zpx (z : Byte)
  /-- zeropage-Y -/
  | zpy (z : Byte)
  /-- absolute -/
  | abs (addr : Word)
  /-- absolute-X -/
  | abx (addr : Word)
  /-- absolute-Y -/
  | aby (addr : Word)
  /-- indirect -/
  | ind (addr : Word)
  /-- indirect-X -/
  | izx (z : Byte)
  /-- indirect-Y -/
  | izy (z : Byte)
  /-- relative -/
  | rel (off : Byte)
  deriving DecidableEq, Repr

/-- One constructor per opcode byte. -/
inductive Instr where
  -- Loads, stores and register transfers (41_load_store_transfer.md)
  | ldaIzx (z : Byte) | ldaZp (z : Byte) | ldaImm (m : Byte) | ldaAbs (addr : Word) | ldaIzy (z : Byte) | ldaZpx (z : Byte) | ldaAby (addr : Word) | ldaAbx (addr : Word)
  | ldxImm (m : Byte) | ldxZp (z : Byte) | ldxAbs (addr : Word) | ldxZpy (z : Byte) | ldxAby (addr : Word)
  | ldyImm (m : Byte) | ldyZp (z : Byte) | ldyAbs (addr : Word) | ldyZpx (z : Byte) | ldyAbx (addr : Word)
  | staIzx (z : Byte) | staZp (z : Byte) | staAbs (addr : Word) | staIzy (z : Byte) | staZpx (z : Byte) | staAby (addr : Word) | staAbx (addr : Word)
  | stxZp (z : Byte) | stxAbs (addr : Word) | stxZpy (z : Byte)
  | styZp (z : Byte) | styAbs (addr : Word) | styZpx (z : Byte)
  | tax
  | tay
  | txa
  | tya
  | tsx
  | txs
  -- Arithmetic, logic, compare, increment, decrement (42_arithmetic_logic.md)
  | adcIzx (z : Byte) | adcZp (z : Byte) | adcImm (m : Byte) | adcAbs (addr : Word) | adcIzy (z : Byte) | adcZpx (z : Byte) | adcAby (addr : Word) | adcAbx (addr : Word)
  | sbcIzx (z : Byte) | sbcZp (z : Byte) | sbcImm (m : Byte) | sbcAbs (addr : Word) | sbcIzy (z : Byte) | sbcZpx (z : Byte) | sbcAby (addr : Word) | sbcAbx (addr : Word)
  | andIzx (z : Byte) | andZp (z : Byte) | andImm (m : Byte) | andAbs (addr : Word) | andIzy (z : Byte) | andZpx (z : Byte) | andAby (addr : Word) | andAbx (addr : Word)
  | oraIzx (z : Byte) | oraZp (z : Byte) | oraImm (m : Byte) | oraAbs (addr : Word) | oraIzy (z : Byte) | oraZpx (z : Byte) | oraAby (addr : Word) | oraAbx (addr : Word)
  | eorIzx (z : Byte) | eorZp (z : Byte) | eorImm (m : Byte) | eorAbs (addr : Word) | eorIzy (z : Byte) | eorZpx (z : Byte) | eorAby (addr : Word) | eorAbx (addr : Word)
  | cmpIzx (z : Byte) | cmpZp (z : Byte) | cmpImm (m : Byte) | cmpAbs (addr : Word) | cmpIzy (z : Byte) | cmpZpx (z : Byte) | cmpAby (addr : Word) | cmpAbx (addr : Word)
  | cpxImm (m : Byte) | cpxZp (z : Byte) | cpxAbs (addr : Word)
  | cpyImm (m : Byte) | cpyZp (z : Byte) | cpyAbs (addr : Word)
  | bitZp (z : Byte) | bitAbs (addr : Word)
  | incZp (z : Byte) | incAbs (addr : Word) | incZpx (z : Byte) | incAbx (addr : Word)
  | decZp (z : Byte) | decAbs (addr : Word) | decZpx (z : Byte) | decAbx (addr : Word)
  | inx
  | iny
  | dex
  | dey
  -- Shifts and rotates (43_shift_rotate.md)
  | aslZp (z : Byte) | aslAcc | aslAbs (addr : Word) | aslZpx (z : Byte) | aslAbx (addr : Word)
  | lsrZp (z : Byte) | lsrAcc | lsrAbs (addr : Word) | lsrZpx (z : Byte) | lsrAbx (addr : Word)
  | rolZp (z : Byte) | rolAcc | rolAbs (addr : Word) | rolZpx (z : Byte) | rolAbx (addr : Word)
  | rorZp (z : Byte) | rorAcc | rorAbs (addr : Word) | rorZpx (z : Byte) | rorAbx (addr : Word)
  -- Branches, jumps, calls, returns (44_branch_jump.md)
  | bcc (off : Byte)
  | bcs (off : Byte)
  | beq (off : Byte)
  | bne (off : Byte)
  | bmi (off : Byte)
  | bpl (off : Byte)
  | bvc (off : Byte)
  | bvs (off : Byte)
  | jmpAbs (addr : Word) | jmpInd (addr : Word)
  | jsrAbs (addr : Word)
  | rts
  -- Stack, flags, system (45_stack_flag_system.md)
  | pha
  | pla
  | php
  | plp
  | clc
  | sec
  | cli
  | sei
  | cld
  | sed
  | clv
  | nop
  | brk
  | rti
  -- The gaps of the dispatch tables (R121)
  | illegal02 | illegal03 | illegal04 | illegal07 | illegal0B | illegal0C | illegal0F | illegal12
  | illegal13 | illegal14 | illegal17 | illegal1A | illegal1B | illegal1C | illegal1F | illegal22
  | illegal23 | illegal27 | illegal2B | illegal2F | illegal32 | illegal33 | illegal34 | illegal37
  | illegal3A | illegal3B | illegal3C | illegal3F | illegal42 | illegal43 | illegal44 | illegal47
  | illegal4B | illegal4F | illegal52 | illegal53 | illegal54 | illegal57 | illegal5A | illegal5B
  | illegal5C | illegal5F | illegal62 | illegal63 | illegal64 | illegal67 | illegal6B | illegal6F
  | illegal72 | illegal73 | illegal74 | illegal77 | illegal7A | illegal7B | illegal7C | illegal7F
  | illegal80 | illegal82 | illegal83 | illegal87 | illegal89 | illegal8B | illegal8F | illegal92
  | illegal93 | illegal97 | illegal9B | illegal9C | illegal9E | illegal9F | illegalA3 | illegalA7
  | illegalAB | illegalAF | illegalB2 | illegalB3 | illegalB7 | illegalBB | illegalBF | illegalC2
  | illegalC3 | illegalC7 | illegalCB | illegalCF | illegalD2 | illegalD3 | illegalD4 | illegalD7
  | illegalDA | illegalDB | illegalDC | illegalDF | illegalE2 | illegalE3 | illegalE7 | illegalEB
  | illegalEF | illegalF2 | illegalF3 | illegalF4 | illegalF7 | illegalFA | illegalFB | illegalFC
  | illegalFF
  deriving DecidableEq, Repr

end Sys2Proof
end

