-- ==== Sys2Proof/Config.lean ====
section
/-! DEFINITION. The implementation parameters of 00_scope.md R5 as one record, so that a claim can name each of them.
The values this model runs with stand in Machine/Params.lean. The spec leaves no value of this block open
(93_implementation_defined.md: nothing is "any value" by default), so there is no free value here. -/

namespace Sys2Proof

/-- Which operand the overflow formula of SBC compares with (`SBC_V_OPERAND`, 90_conflicts.md C10, D30). -/
inductive SbcOverflowOperand where
  /-- the complemented memory byte, the byte that is added: the spec's choice -/
  | complemented
  /-- the memory byte itself: the named alternative -/
  | raw
  deriving DecidableEq, Repr

/-- The parameters of R5: every value it marks D<n>, and every parameter 92_eei_decisions.md names. -/
structure Config where
  /-- `LEGAL_OPCODES`: the opcode bytes that are not fatal (R121, D2; 93_implementation_defined.md U5) -/
  legalOpcodes : List Byte
  /-- the instruction length in bytes of each format (R111, D8) -/
  lengths : List (Format × Nat)
  /-- `BASE_CYCLES`: a row for each high nibble of the opcode, a column for each low nibble (R118, D8; U6) -/
  baseCycles : List (List Nat)
  /-- `PAGE_SENSITIVE`: the opcodes that pay for a page crossing (R119, D8; U6) -/
  pageSensitive : List Byte
  /-- `MEM_INIT`: every byte of `MEM` and `VRAM` the loader does not install (R60, D23; U9) -/
  memInit : Byte
  /-- `VEC_NMI` (D5) -/
  vecNmi : Word
  /-- `VEC_RESET` (D5) -/
  vecReset : Word
  /-- `VEC_IRQ`, used by IRQ and BRK (D5) -/
  vecIrq : Word
  /-- `INT_CYCLES` (R120, D7) -/
  intCycles : Nat
  /-- `DOTS_PER_CYCLE` (R5, D20) -/
  dotsPerCycle : Nat
  /-- last value of `SL`, 261 (R40) -/
  lastLine : Nat
  /-- last value of `DOT`, 340 (R41) -/
  lastDot : Nat
  /-- scanline of the vblank set event (R305) -/
  vblankSetLine : Nat
  /-- scanline of the vblank clear event (R306) -/
  vblankClearLine : Nat
  /-- the dot of both vblank events (R305, R306) -/
  vblankDot : Nat
  /-- `SBC_V_OPERAND` (D30) -/
  sbcVOperand : SbcOverflowOperand
  /-- `RESET_A` (D6) -/
  resetA : Byte
  /-- `RESET_X` (D6) -/
  resetX : Byte
  /-- `RESET_Y` (D6) -/
  resetY : Byte
  /-- `RESET_SP` (D6) -/
  resetSP : Byte
  /-- `RESET_P` (D6) -/
  resetP : Byte
  /-- `CYC_RESET` (D6) -/
  cycReset : Nat
  /-- `RESET_SL` (D19) -/
  resetLine : Nat
  /-- `RESET_DOT` (D19) -/
  resetDot : Nat
  deriving DecidableEq, Repr

end Sys2Proof
end

