-- ==== Sys2Proof/Machine/Params.lean ====
section
/-! DEFINITION. The values of the parameters of 00_scope.md R5 that this model runs with, and one lemma per value. -/

namespace Sys2Proof.Machine

/-- The 151 opcodes of the matrix of R115, one list for each high nibble (D2). -/
def documentedOpcodes : List Byte :=
  [0x00#8, 0x01#8, 0x05#8, 0x06#8, 0x08#8, 0x09#8, 0x0A#8, 0x0D#8, 0x0E#8]
  ++ [0x10#8, 0x11#8, 0x15#8, 0x16#8, 0x18#8, 0x19#8, 0x1D#8, 0x1E#8]
  ++ [0x20#8, 0x21#8, 0x24#8, 0x25#8, 0x26#8, 0x28#8, 0x29#8, 0x2A#8, 0x2C#8, 0x2D#8, 0x2E#8]
  ++ [0x30#8, 0x31#8, 0x35#8, 0x36#8, 0x38#8, 0x39#8, 0x3D#8, 0x3E#8]
  ++ [0x40#8, 0x41#8, 0x45#8, 0x46#8, 0x48#8, 0x49#8, 0x4A#8, 0x4C#8, 0x4D#8, 0x4E#8]
  ++ [0x50#8, 0x51#8, 0x55#8, 0x56#8, 0x58#8, 0x59#8, 0x5D#8, 0x5E#8]
  ++ [0x60#8, 0x61#8, 0x65#8, 0x66#8, 0x68#8, 0x69#8, 0x6A#8, 0x6C#8, 0x6D#8, 0x6E#8]
  ++ [0x70#8, 0x71#8, 0x75#8, 0x76#8, 0x78#8, 0x79#8, 0x7D#8, 0x7E#8]
  ++ [0x81#8, 0x84#8, 0x85#8, 0x86#8, 0x88#8, 0x8A#8, 0x8C#8, 0x8D#8, 0x8E#8]
  ++ [0x90#8, 0x91#8, 0x94#8, 0x95#8, 0x96#8, 0x98#8, 0x99#8, 0x9A#8, 0x9D#8]
  ++ [0xA0#8, 0xA1#8, 0xA2#8, 0xA4#8, 0xA5#8, 0xA6#8, 0xA8#8, 0xA9#8, 0xAA#8, 0xAC#8, 0xAD#8, 0xAE#8]
  ++ [0xB0#8, 0xB1#8, 0xB4#8, 0xB5#8, 0xB6#8, 0xB8#8, 0xB9#8, 0xBA#8, 0xBC#8, 0xBD#8, 0xBE#8]
  ++ [0xC0#8, 0xC1#8, 0xC4#8, 0xC5#8, 0xC6#8, 0xC8#8, 0xC9#8, 0xCA#8, 0xCC#8, 0xCD#8, 0xCE#8]
  ++ [0xD0#8, 0xD1#8, 0xD5#8, 0xD6#8, 0xD8#8, 0xD9#8, 0xDD#8, 0xDE#8]
  ++ [0xE0#8, 0xE1#8, 0xE4#8, 0xE5#8, 0xE6#8, 0xE8#8, 0xE9#8, 0xEA#8, 0xEC#8, 0xED#8, 0xEE#8]
  ++ [0xF0#8, 0xF1#8, 0xF5#8, 0xF6#8, 0xF8#8, 0xF9#8, 0xFD#8, 0xFE#8]

/-- The length column of R111 (D8). -/
def formatLengths : List (Format × Nat) :=
  [(.imp, 1), (.acc, 1), (.imm, 2), (.zp, 2), (.zpx, 2), (.zpy, 2), (.abs, 3), (.abx, 3), (.aby, 3), (.ind, 3)]
  ++ [(.izx, 2), (.izy, 2), (.rel, 2)]

/-- The table of R118, row by the high nibble, column by the low nibble; a gap has no count and stands as 0 (it is never
looked up: a gap retires nothing, R402). -/
def baseCycleTable : List (List Nat) :=
  [[7, 6, 0, 0, 0, 3, 5, 0, 3, 2, 2, 0, 0, 4, 6, 0]]
  ++ [[2, 5, 0, 0, 0, 4, 6, 0, 2, 4, 0, 0, 0, 4, 7, 0]]
  ++ [[6, 6, 0, 0, 3, 3, 5, 0, 4, 2, 2, 0, 4, 4, 6, 0]]
  ++ [[2, 5, 0, 0, 0, 4, 6, 0, 2, 4, 0, 0, 0, 4, 7, 0]]
  ++ [[6, 6, 0, 0, 0, 3, 5, 0, 3, 2, 2, 0, 3, 4, 6, 0]]
  ++ [[2, 5, 0, 0, 0, 4, 6, 0, 2, 4, 0, 0, 0, 4, 7, 0]]
  ++ [[6, 6, 0, 0, 0, 3, 5, 0, 4, 2, 2, 0, 5, 4, 6, 0]]
  ++ [[2, 5, 0, 0, 0, 4, 6, 0, 2, 4, 0, 0, 0, 4, 7, 0]]
  ++ [[0, 6, 0, 0, 3, 3, 3, 0, 2, 0, 2, 0, 4, 4, 4, 0]]
  ++ [[2, 6, 0, 0, 4, 4, 4, 0, 2, 5, 2, 0, 0, 5, 0, 0]]
  ++ [[2, 6, 2, 0, 3, 3, 3, 0, 2, 2, 2, 0, 4, 4, 4, 0]]
  ++ [[2, 5, 0, 0, 4, 4, 4, 0, 2, 4, 2, 0, 4, 4, 4, 0]]
  ++ [[2, 6, 0, 0, 3, 3, 5, 0, 2, 2, 2, 0, 4, 4, 6, 0]]
  ++ [[2, 5, 0, 0, 0, 4, 6, 0, 2, 4, 0, 0, 0, 4, 7, 0]]
  ++ [[2, 6, 0, 0, 3, 3, 5, 0, 2, 2, 2, 0, 4, 4, 6, 0]]
  ++ [[2, 5, 0, 0, 0, 4, 6, 0, 2, 4, 0, 0, 0, 4, 7, 0]]

/-- `PAGE_SENSITIVE` (R119): the read instructions in the absolute-X, absolute-Y and indirect-Y formats. -/
def pageSensitiveOpcodes : List Byte :=
  [0x11#8, 0x19#8, 0x1D#8, 0x31#8, 0x39#8, 0x3D#8, 0x51#8, 0x59#8, 0x5D#8, 0x71#8, 0x79#8, 0x7D#8]
  ++ [0xB1#8, 0xB9#8, 0xBC#8, 0xBD#8, 0xBE#8, 0xD1#8, 0xD9#8, 0xDD#8, 0xF1#8, 0xF9#8, 0xFD#8]

/-- The parameters at the spec's defaults: R5 with D2, D5, D6, D7, D8, D19, D20, D23, D30. -/
def config : Config where
  legalOpcodes := documentedOpcodes
  lengths := formatLengths
  baseCycles := baseCycleTable
  pageSensitive := pageSensitiveOpcodes
  memInit := 0x00#8
  vecNmi := 0xFFFA#16
  vecReset := 0xFFFC#16
  vecIrq := 0xFFFE#16
  intCycles := 7
  dotsPerCycle := 3
  lastLine := 261
  lastDot := 340
  vblankSetLine := 241
  vblankClearLine := 261
  vblankDot := 1
  sbcVOperand := .complemented
  resetA := 0x00#8
  resetX := 0x00#8
  resetY := 0x00#8
  resetSP := 0xFD#8
  resetP := 0x24#8
  cycReset := 7
  resetLine := 0
  resetDot := 0

theorem config_legalOpcodes : config.legalOpcodes = documentedOpcodes := rfl
theorem config_lengths : config.lengths = formatLengths := rfl
theorem config_baseCycles : config.baseCycles = baseCycleTable := rfl
theorem config_pageSensitive : config.pageSensitive = pageSensitiveOpcodes := rfl
@[simp] theorem config_memInit : config.memInit = 0x00#8 := rfl
@[simp] theorem config_vecNmi : config.vecNmi = 0xFFFA#16 := rfl
@[simp] theorem config_vecReset : config.vecReset = 0xFFFC#16 := rfl
@[simp] theorem config_vecIrq : config.vecIrq = 0xFFFE#16 := rfl
@[simp] theorem config_intCycles : config.intCycles = 7 := rfl
@[simp] theorem config_dotsPerCycle : config.dotsPerCycle = 3 := rfl
@[simp] theorem config_lastLine : config.lastLine = 261 := rfl
@[simp] theorem config_lastDot : config.lastDot = 340 := rfl
@[simp] theorem config_vblankSetLine : config.vblankSetLine = 241 := rfl
@[simp] theorem config_vblankClearLine : config.vblankClearLine = 261 := rfl
@[simp] theorem config_vblankDot : config.vblankDot = 1 := rfl
@[simp] theorem config_sbcVOperand : config.sbcVOperand = .complemented := rfl
@[simp] theorem config_resetA : config.resetA = 0x00#8 := rfl
@[simp] theorem config_resetX : config.resetX = 0x00#8 := rfl
@[simp] theorem config_resetY : config.resetY = 0x00#8 := rfl
@[simp] theorem config_resetSP : config.resetSP = 0xFD#8 := rfl
@[simp] theorem config_resetP : config.resetP = 0x24#8 := rfl
@[simp] theorem config_cycReset : config.cycReset = 7 := rfl
@[simp] theorem config_resetLine : config.resetLine = 0 := rfl
@[simp] theorem config_resetDot : config.resetDot = 0 := rfl

end Sys2Proof.Machine
end

