-- ==== Sys2Proof/Decode.lean ====
section
/-! DEFINITION. The decoder and the encoder, both written from the opcode matrix of 30_encoding.md R115, and the two
readings of an instruction that the rules are indexed by: its mnemonic and its operand form (R116). -/

namespace Sys2Proof

open Sys2Proof.Machine

/-- What one opcode byte selects: an instruction with no operand byte, with one, or with two (R110, R111). -/
inductive Row where
  | noOperand (i : Instr)
  | byteOperand (f : Byte → Instr)
  | wordOperand (f : Word → Instr)

/-- The opcode matrix of R115, one definition per high nibble of byte 0, the low nibble counting from 0. A gap is a row of
its own: R121. -/
def opcodes0 : List Row :=
  [.noOperand .brk, .byteOperand .oraIzx, .noOperand .illegal02, .noOperand .illegal03,
   .noOperand .illegal04, .byteOperand .oraZp, .byteOperand .aslZp, .noOperand .illegal07,
   .noOperand .php, .byteOperand .oraImm, .noOperand .aslAcc, .noOperand .illegal0B,
   .noOperand .illegal0C, .wordOperand .oraAbs, .wordOperand .aslAbs, .noOperand .illegal0F]
/-- Opcodes 0x10 to 0x1F (R115). -/
def opcodes1 : List Row :=
  [.byteOperand .bpl, .byteOperand .oraIzy, .noOperand .illegal12, .noOperand .illegal13,
   .noOperand .illegal14, .byteOperand .oraZpx, .byteOperand .aslZpx, .noOperand .illegal17,
   .noOperand .clc, .wordOperand .oraAby, .noOperand .illegal1A, .noOperand .illegal1B,
   .noOperand .illegal1C, .wordOperand .oraAbx, .wordOperand .aslAbx, .noOperand .illegal1F]
/-- Opcodes 0x20 to 0x2F (R115). -/
def opcodes2 : List Row :=
  [.wordOperand .jsrAbs, .byteOperand .andIzx, .noOperand .illegal22, .noOperand .illegal23,
   .byteOperand .bitZp, .byteOperand .andZp, .byteOperand .rolZp, .noOperand .illegal27,
   .noOperand .plp, .byteOperand .andImm, .noOperand .rolAcc, .noOperand .illegal2B,
   .wordOperand .bitAbs, .wordOperand .andAbs, .wordOperand .rolAbs, .noOperand .illegal2F]
/-- Opcodes 0x30 to 0x3F (R115). -/
def opcodes3 : List Row :=
  [.byteOperand .bmi, .byteOperand .andIzy, .noOperand .illegal32, .noOperand .illegal33,
   .noOperand .illegal34, .byteOperand .andZpx, .byteOperand .rolZpx, .noOperand .illegal37,
   .noOperand .sec, .wordOperand .andAby, .noOperand .illegal3A, .noOperand .illegal3B,
   .noOperand .illegal3C, .wordOperand .andAbx, .wordOperand .rolAbx, .noOperand .illegal3F]
/-- Opcodes 0x40 to 0x4F (R115). -/
def opcodes4 : List Row :=
  [.noOperand .rti, .byteOperand .eorIzx, .noOperand .illegal42, .noOperand .illegal43,
   .noOperand .illegal44, .byteOperand .eorZp, .byteOperand .lsrZp, .noOperand .illegal47,
   .noOperand .pha, .byteOperand .eorImm, .noOperand .lsrAcc, .noOperand .illegal4B,
   .wordOperand .jmpAbs, .wordOperand .eorAbs, .wordOperand .lsrAbs, .noOperand .illegal4F]
/-- Opcodes 0x50 to 0x5F (R115). -/
def opcodes5 : List Row :=
  [.byteOperand .bvc, .byteOperand .eorIzy, .noOperand .illegal52, .noOperand .illegal53,
   .noOperand .illegal54, .byteOperand .eorZpx, .byteOperand .lsrZpx, .noOperand .illegal57,
   .noOperand .cli, .wordOperand .eorAby, .noOperand .illegal5A, .noOperand .illegal5B,
   .noOperand .illegal5C, .wordOperand .eorAbx, .wordOperand .lsrAbx, .noOperand .illegal5F]
/-- Opcodes 0x60 to 0x6F (R115). -/
def opcodes6 : List Row :=
  [.noOperand .rts, .byteOperand .adcIzx, .noOperand .illegal62, .noOperand .illegal63,
   .noOperand .illegal64, .byteOperand .adcZp, .byteOperand .rorZp, .noOperand .illegal67,
   .noOperand .pla, .byteOperand .adcImm, .noOperand .rorAcc, .noOperand .illegal6B,
   .wordOperand .jmpInd, .wordOperand .adcAbs, .wordOperand .rorAbs, .noOperand .illegal6F]
/-- Opcodes 0x70 to 0x7F (R115). -/
def opcodes7 : List Row :=
  [.byteOperand .bvs, .byteOperand .adcIzy, .noOperand .illegal72, .noOperand .illegal73,
   .noOperand .illegal74, .byteOperand .adcZpx, .byteOperand .rorZpx, .noOperand .illegal77,
   .noOperand .sei, .wordOperand .adcAby, .noOperand .illegal7A, .noOperand .illegal7B,
   .noOperand .illegal7C, .wordOperand .adcAbx, .wordOperand .rorAbx, .noOperand .illegal7F]
/-- Opcodes 0x80 to 0x8F (R115). -/
def opcodes8 : List Row :=
  [.noOperand .illegal80, .byteOperand .staIzx, .noOperand .illegal82, .noOperand .illegal83,
   .byteOperand .styZp, .byteOperand .staZp, .byteOperand .stxZp, .noOperand .illegal87,
   .noOperand .dey, .noOperand .illegal89, .noOperand .txa, .noOperand .illegal8B,
   .wordOperand .styAbs, .wordOperand .staAbs, .wordOperand .stxAbs, .noOperand .illegal8F]
/-- Opcodes 0x90 to 0x9F (R115). -/
def opcodes9 : List Row :=
  [.byteOperand .bcc, .byteOperand .staIzy, .noOperand .illegal92, .noOperand .illegal93,
   .byteOperand .styZpx, .byteOperand .staZpx, .byteOperand .stxZpy, .noOperand .illegal97,
   .noOperand .tya, .wordOperand .staAby, .noOperand .txs, .noOperand .illegal9B,
   .noOperand .illegal9C, .wordOperand .staAbx, .noOperand .illegal9E, .noOperand .illegal9F]
/-- Opcodes 0xA0 to 0xAF (R115). -/
def opcodesA : List Row :=
  [.byteOperand .ldyImm, .byteOperand .ldaIzx, .byteOperand .ldxImm, .noOperand .illegalA3,
   .byteOperand .ldyZp, .byteOperand .ldaZp, .byteOperand .ldxZp, .noOperand .illegalA7,
   .noOperand .tay, .byteOperand .ldaImm, .noOperand .tax, .noOperand .illegalAB,
   .wordOperand .ldyAbs, .wordOperand .ldaAbs, .wordOperand .ldxAbs, .noOperand .illegalAF]
/-- Opcodes 0xB0 to 0xBF (R115). -/
def opcodesB : List Row :=
  [.byteOperand .bcs, .byteOperand .ldaIzy, .noOperand .illegalB2, .noOperand .illegalB3,
   .byteOperand .ldyZpx, .byteOperand .ldaZpx, .byteOperand .ldxZpy, .noOperand .illegalB7,
   .noOperand .clv, .wordOperand .ldaAby, .noOperand .tsx, .noOperand .illegalBB,
   .wordOperand .ldyAbx, .wordOperand .ldaAbx, .wordOperand .ldxAby, .noOperand .illegalBF]
/-- Opcodes 0xC0 to 0xCF (R115). -/
def opcodesC : List Row :=
  [.byteOperand .cpyImm, .byteOperand .cmpIzx, .noOperand .illegalC2, .noOperand .illegalC3,
   .byteOperand .cpyZp, .byteOperand .cmpZp, .byteOperand .decZp, .noOperand .illegalC7,
   .noOperand .iny, .byteOperand .cmpImm, .noOperand .dex, .noOperand .illegalCB,
   .wordOperand .cpyAbs, .wordOperand .cmpAbs, .wordOperand .decAbs, .noOperand .illegalCF]
/-- Opcodes 0xD0 to 0xDF (R115). -/
def opcodesD : List Row :=
  [.byteOperand .bne, .byteOperand .cmpIzy, .noOperand .illegalD2, .noOperand .illegalD3,
   .noOperand .illegalD4, .byteOperand .cmpZpx, .byteOperand .decZpx, .noOperand .illegalD7,
   .noOperand .cld, .wordOperand .cmpAby, .noOperand .illegalDA, .noOperand .illegalDB,
   .noOperand .illegalDC, .wordOperand .cmpAbx, .wordOperand .decAbx, .noOperand .illegalDF]
/-- Opcodes 0xE0 to 0xEF (R115). -/
def opcodesE : List Row :=
  [.byteOperand .cpxImm, .byteOperand .sbcIzx, .noOperand .illegalE2, .noOperand .illegalE3,
   .byteOperand .cpxZp, .byteOperand .sbcZp, .byteOperand .incZp, .noOperand .illegalE7,
   .noOperand .inx, .byteOperand .sbcImm, .noOperand .nop, .noOperand .illegalEB,
   .wordOperand .cpxAbs, .wordOperand .sbcAbs, .wordOperand .incAbs, .noOperand .illegalEF]
/-- Opcodes 0xF0 to 0xFF (R115). -/
def opcodesF : List Row :=
  [.byteOperand .beq, .byteOperand .sbcIzy, .noOperand .illegalF2, .noOperand .illegalF3,
   .noOperand .illegalF4, .byteOperand .sbcZpx, .byteOperand .incZpx, .noOperand .illegalF7,
   .noOperand .sed, .wordOperand .sbcAby, .noOperand .illegalFA, .noOperand .illegalFB,
   .noOperand .illegalFC, .wordOperand .sbcAbx, .wordOperand .incAbx, .noOperand .illegalFF]

/-- The whole matrix (R115). -/
def opcodeMatrix : List (List Row) :=
  [opcodes0, opcodes1, opcodes2, opcodes3, opcodes4, opcodes5, opcodes6, opcodes7,
   opcodes8, opcodes9, opcodesA, opcodesB, opcodesC, opcodesD, opcodesE, opcodesF]

/-- The row of an opcode byte (R114). The default is never taken: the matrix has 16 rows of 16. -/
def rowOf (op : Byte) : Row := (opcodeMatrix.getD (op.toNat / 16) []).getD (op.toNat % 16) (.noOperand .illegalFF)

/-- The instruction of an opcode byte and the two bytes after it: of those, the ones its format has are used, the first
the low byte of an address (R111, R113). Total on any bytes. -/
def assemble (op b1 b2 : Byte) : Instr :=
  match rowOf op with
  | .noOperand i => i
  | .byteOperand f => f b1
  | .wordOperand f => f (joinBytes b2 b1)

/-- Byte 0 of an instruction: its opcode (R115, R116, R121). -/
def Instr.opcode : Instr → Byte
  | .ldaIzx _ => 0xA1#8 | .ldaZp _ => 0xA5#8 | .ldaImm _ => 0xA9#8 | .ldaAbs _ => 0xAD#8 | .ldaIzy _ => 0xB1#8 | .ldaZpx _ => 0xB5#8 | .ldaAby _ => 0xB9#8 | .ldaAbx _ => 0xBD#8
  | .ldxImm _ => 0xA2#8 | .ldxZp _ => 0xA6#8 | .ldxAbs _ => 0xAE#8 | .ldxZpy _ => 0xB6#8 | .ldxAby _ => 0xBE#8
  | .ldyImm _ => 0xA0#8 | .ldyZp _ => 0xA4#8 | .ldyAbs _ => 0xAC#8 | .ldyZpx _ => 0xB4#8 | .ldyAbx _ => 0xBC#8
  | .staIzx _ => 0x81#8 | .staZp _ => 0x85#8 | .staAbs _ => 0x8D#8 | .staIzy _ => 0x91#8 | .staZpx _ => 0x95#8 | .staAby _ => 0x99#8 | .staAbx _ => 0x9D#8
  | .stxZp _ => 0x86#8 | .stxAbs _ => 0x8E#8 | .stxZpy _ => 0x96#8
  | .styZp _ => 0x84#8 | .styAbs _ => 0x8C#8 | .styZpx _ => 0x94#8
  | .tax => 0xAA#8
  | .tay => 0xA8#8
  | .txa => 0x8A#8
  | .tya => 0x98#8
  | .tsx => 0xBA#8
  | .txs => 0x9A#8
  | .adcIzx _ => 0x61#8 | .adcZp _ => 0x65#8 | .adcImm _ => 0x69#8 | .adcAbs _ => 0x6D#8 | .adcIzy _ => 0x71#8 | .adcZpx _ => 0x75#8 | .adcAby _ => 0x79#8 | .adcAbx _ => 0x7D#8
  | .sbcIzx _ => 0xE1#8 | .sbcZp _ => 0xE5#8 | .sbcImm _ => 0xE9#8 | .sbcAbs _ => 0xED#8 | .sbcIzy _ => 0xF1#8 | .sbcZpx _ => 0xF5#8 | .sbcAby _ => 0xF9#8 | .sbcAbx _ => 0xFD#8
  | .andIzx _ => 0x21#8 | .andZp _ => 0x25#8 | .andImm _ => 0x29#8 | .andAbs _ => 0x2D#8 | .andIzy _ => 0x31#8 | .andZpx _ => 0x35#8 | .andAby _ => 0x39#8 | .andAbx _ => 0x3D#8
  | .oraIzx _ => 0x01#8 | .oraZp _ => 0x05#8 | .oraImm _ => 0x09#8 | .oraAbs _ => 0x0D#8 | .oraIzy _ => 0x11#8 | .oraZpx _ => 0x15#8 | .oraAby _ => 0x19#8 | .oraAbx _ => 0x1D#8
  | .eorIzx _ => 0x41#8 | .eorZp _ => 0x45#8 | .eorImm _ => 0x49#8 | .eorAbs _ => 0x4D#8 | .eorIzy _ => 0x51#8 | .eorZpx _ => 0x55#8 | .eorAby _ => 0x59#8 | .eorAbx _ => 0x5D#8
  | .cmpIzx _ => 0xC1#8 | .cmpZp _ => 0xC5#8 | .cmpImm _ => 0xC9#8 | .cmpAbs _ => 0xCD#8 | .cmpIzy _ => 0xD1#8 | .cmpZpx _ => 0xD5#8 | .cmpAby _ => 0xD9#8 | .cmpAbx _ => 0xDD#8
  | .cpxImm _ => 0xE0#8 | .cpxZp _ => 0xE4#8 | .cpxAbs _ => 0xEC#8
  | .cpyImm _ => 0xC0#8 | .cpyZp _ => 0xC4#8 | .cpyAbs _ => 0xCC#8
  | .bitZp _ => 0x24#8 | .bitAbs _ => 0x2C#8
  | .incZp _ => 0xE6#8 | .incAbs _ => 0xEE#8 | .incZpx _ => 0xF6#8 | .incAbx _ => 0xFE#8
  | .decZp _ => 0xC6#8 | .decAbs _ => 0xCE#8 | .decZpx _ => 0xD6#8 | .decAbx _ => 0xDE#8
  | .inx => 0xE8#8
  | .iny => 0xC8#8
  | .dex => 0xCA#8
  | .dey => 0x88#8
  | .aslZp _ => 0x06#8 | .aslAcc => 0x0A#8 | .aslAbs _ => 0x0E#8 | .aslZpx _ => 0x16#8 | .aslAbx _ => 0x1E#8
  | .lsrZp _ => 0x46#8 | .lsrAcc => 0x4A#8 | .lsrAbs _ => 0x4E#8 | .lsrZpx _ => 0x56#8 | .lsrAbx _ => 0x5E#8
  | .rolZp _ => 0x26#8 | .rolAcc => 0x2A#8 | .rolAbs _ => 0x2E#8 | .rolZpx _ => 0x36#8 | .rolAbx _ => 0x3E#8
  | .rorZp _ => 0x66#8 | .rorAcc => 0x6A#8 | .rorAbs _ => 0x6E#8 | .rorZpx _ => 0x76#8 | .rorAbx _ => 0x7E#8
  | .bcc _ => 0x90#8
  | .bcs _ => 0xB0#8
  | .beq _ => 0xF0#8
  | .bne _ => 0xD0#8
  | .bmi _ => 0x30#8
  | .bpl _ => 0x10#8
  | .bvc _ => 0x50#8
  | .bvs _ => 0x70#8
  | .jmpAbs _ => 0x4C#8 | .jmpInd _ => 0x6C#8
  | .jsrAbs _ => 0x20#8
  | .rts => 0x60#8
  | .pha => 0x48#8
  | .pla => 0x68#8
  | .php => 0x08#8
  | .plp => 0x28#8
  | .clc => 0x18#8
  | .sec => 0x38#8
  | .cli => 0x58#8
  | .sei => 0x78#8
  | .cld => 0xD8#8
  | .sed => 0xF8#8
  | .clv => 0xB8#8
  | .nop => 0xEA#8
  | .brk => 0x00#8
  | .rti => 0x40#8
  | .illegal02 => 0x02#8 | .illegal03 => 0x03#8 | .illegal04 => 0x04#8 | .illegal07 => 0x07#8 | .illegal0B => 0x0B#8
  | .illegal0C => 0x0C#8 | .illegal0F => 0x0F#8 | .illegal12 => 0x12#8 | .illegal13 => 0x13#8 | .illegal14 => 0x14#8
  | .illegal17 => 0x17#8 | .illegal1A => 0x1A#8 | .illegal1B => 0x1B#8 | .illegal1C => 0x1C#8 | .illegal1F => 0x1F#8
  | .illegal22 => 0x22#8 | .illegal23 => 0x23#8 | .illegal27 => 0x27#8 | .illegal2B => 0x2B#8 | .illegal2F => 0x2F#8
  | .illegal32 => 0x32#8 | .illegal33 => 0x33#8 | .illegal34 => 0x34#8 | .illegal37 => 0x37#8 | .illegal3A => 0x3A#8
  | .illegal3B => 0x3B#8 | .illegal3C => 0x3C#8 | .illegal3F => 0x3F#8 | .illegal42 => 0x42#8 | .illegal43 => 0x43#8
  | .illegal44 => 0x44#8 | .illegal47 => 0x47#8 | .illegal4B => 0x4B#8 | .illegal4F => 0x4F#8 | .illegal52 => 0x52#8
  | .illegal53 => 0x53#8 | .illegal54 => 0x54#8 | .illegal57 => 0x57#8 | .illegal5A => 0x5A#8 | .illegal5B => 0x5B#8
  | .illegal5C => 0x5C#8 | .illegal5F => 0x5F#8 | .illegal62 => 0x62#8 | .illegal63 => 0x63#8 | .illegal64 => 0x64#8
  | .illegal67 => 0x67#8 | .illegal6B => 0x6B#8 | .illegal6F => 0x6F#8 | .illegal72 => 0x72#8 | .illegal73 => 0x73#8
  | .illegal74 => 0x74#8 | .illegal77 => 0x77#8 | .illegal7A => 0x7A#8 | .illegal7B => 0x7B#8 | .illegal7C => 0x7C#8
  | .illegal7F => 0x7F#8 | .illegal80 => 0x80#8 | .illegal82 => 0x82#8 | .illegal83 => 0x83#8 | .illegal87 => 0x87#8
  | .illegal89 => 0x89#8 | .illegal8B => 0x8B#8 | .illegal8F => 0x8F#8 | .illegal92 => 0x92#8 | .illegal93 => 0x93#8
  | .illegal97 => 0x97#8 | .illegal9B => 0x9B#8 | .illegal9C => 0x9C#8 | .illegal9E => 0x9E#8 | .illegal9F => 0x9F#8
  | .illegalA3 => 0xA3#8 | .illegalA7 => 0xA7#8 | .illegalAB => 0xAB#8 | .illegalAF => 0xAF#8 | .illegalB2 => 0xB2#8
  | .illegalB3 => 0xB3#8 | .illegalB7 => 0xB7#8 | .illegalBB => 0xBB#8 | .illegalBF => 0xBF#8 | .illegalC2 => 0xC2#8
  | .illegalC3 => 0xC3#8 | .illegalC7 => 0xC7#8 | .illegalCB => 0xCB#8 | .illegalCF => 0xCF#8 | .illegalD2 => 0xD2#8
  | .illegalD3 => 0xD3#8 | .illegalD4 => 0xD4#8 | .illegalD7 => 0xD7#8 | .illegalDA => 0xDA#8 | .illegalDB => 0xDB#8
  | .illegalDC => 0xDC#8 | .illegalDF => 0xDF#8 | .illegalE2 => 0xE2#8 | .illegalE3 => 0xE3#8 | .illegalE7 => 0xE7#8
  | .illegalEB => 0xEB#8 | .illegalEF => 0xEF#8 | .illegalF2 => 0xF2#8 | .illegalF3 => 0xF3#8 | .illegalF4 => 0xF4#8
  | .illegalF7 => 0xF7#8 | .illegalFA => 0xFA#8 | .illegalFB => 0xFB#8 | .illegalFC => 0xFC#8 | .illegalFF => 0xFF#8

/-- The mnemonic of a legal instruction (R116); a gap has none (R121). -/
def Instr.mnemonic : Instr → Option Mnemonic
  | .ldaIzx _ | .ldaZp _ | .ldaImm _ | .ldaAbs _ | .ldaIzy _ | .ldaZpx _ | .ldaAby _ | .ldaAbx _ => some .lda
  | .ldxImm _ | .ldxZp _ | .ldxAbs _ | .ldxZpy _ | .ldxAby _ => some .ldx
  | .ldyImm _ | .ldyZp _ | .ldyAbs _ | .ldyZpx _ | .ldyAbx _ => some .ldy
  | .staIzx _ | .staZp _ | .staAbs _ | .staIzy _ | .staZpx _ | .staAby _ | .staAbx _ => some .sta
  | .stxZp _ | .stxAbs _ | .stxZpy _ => some .stx
  | .styZp _ | .styAbs _ | .styZpx _ => some .sty
  | .tax => some .tax
  | .tay => some .tay
  | .txa => some .txa
  | .tya => some .tya
  | .tsx => some .tsx
  | .txs => some .txs
  | .adcIzx _ | .adcZp _ | .adcImm _ | .adcAbs _ | .adcIzy _ | .adcZpx _ | .adcAby _ | .adcAbx _ => some .adc
  | .sbcIzx _ | .sbcZp _ | .sbcImm _ | .sbcAbs _ | .sbcIzy _ | .sbcZpx _ | .sbcAby _ | .sbcAbx _ => some .sbc
  | .andIzx _ | .andZp _ | .andImm _ | .andAbs _ | .andIzy _ | .andZpx _ | .andAby _ | .andAbx _ => some .and
  | .oraIzx _ | .oraZp _ | .oraImm _ | .oraAbs _ | .oraIzy _ | .oraZpx _ | .oraAby _ | .oraAbx _ => some .ora
  | .eorIzx _ | .eorZp _ | .eorImm _ | .eorAbs _ | .eorIzy _ | .eorZpx _ | .eorAby _ | .eorAbx _ => some .eor
  | .cmpIzx _ | .cmpZp _ | .cmpImm _ | .cmpAbs _ | .cmpIzy _ | .cmpZpx _ | .cmpAby _ | .cmpAbx _ => some .cmp
  | .cpxImm _ | .cpxZp _ | .cpxAbs _ => some .cpx
  | .cpyImm _ | .cpyZp _ | .cpyAbs _ => some .cpy
  | .bitZp _ | .bitAbs _ => some .bit
  | .incZp _ | .incAbs _ | .incZpx _ | .incAbx _ => some .inc
  | .decZp _ | .decAbs _ | .decZpx _ | .decAbx _ => some .dec
  | .inx => some .inx
  | .iny => some .iny
  | .dex => some .dex
  | .dey => some .dey
  | .aslZp _ | .aslAcc | .aslAbs _ | .aslZpx _ | .aslAbx _ => some .asl
  | .lsrZp _ | .lsrAcc | .lsrAbs _ | .lsrZpx _ | .lsrAbx _ => some .lsr
  | .rolZp _ | .rolAcc | .rolAbs _ | .rolZpx _ | .rolAbx _ => some .rol
  | .rorZp _ | .rorAcc | .rorAbs _ | .rorZpx _ | .rorAbx _ => some .ror
  | .bcc _ => some .bcc
  | .bcs _ => some .bcs
  | .beq _ => some .beq
  | .bne _ => some .bne
  | .bmi _ => some .bmi
  | .bpl _ => some .bpl
  | .bvc _ => some .bvc
  | .bvs _ => some .bvs
  | .jmpAbs _ | .jmpInd _ => some .jmp
  | .jsrAbs _ => some .jsr
  | .rts => some .rts
  | .pha => some .pha
  | .pla => some .pla
  | .php => some .php
  | .plp => some .plp
  | .clc => some .clc
  | .sec => some .sec
  | .cli => some .cli
  | .sei => some .sei
  | .cld => some .cld
  | .sed => some .sed
  | .clv => some .clv
  | .nop => some .nop
  | .brk => some .brk
  | .rti => some .rti
  | .illegal02 | .illegal03 | .illegal04 | .illegal07 | .illegal0B | .illegal0C | .illegal0F | .illegal12
  | .illegal13 | .illegal14 | .illegal17 | .illegal1A | .illegal1B | .illegal1C | .illegal1F | .illegal22
  | .illegal23 | .illegal27 | .illegal2B | .illegal2F | .illegal32 | .illegal33 | .illegal34 | .illegal37
  | .illegal3A | .illegal3B | .illegal3C | .illegal3F | .illegal42 | .illegal43 | .illegal44 | .illegal47
  | .illegal4B | .illegal4F | .illegal52 | .illegal53 | .illegal54 | .illegal57 | .illegal5A | .illegal5B
  | .illegal5C | .illegal5F | .illegal62 | .illegal63 | .illegal64 | .illegal67 | .illegal6B | .illegal6F
  | .illegal72 | .illegal73 | .illegal74 | .illegal77 | .illegal7A | .illegal7B | .illegal7C | .illegal7F
  | .illegal80 | .illegal82 | .illegal83 | .illegal87 | .illegal89 | .illegal8B | .illegal8F | .illegal92
  | .illegal93 | .illegal97 | .illegal9B | .illegal9C | .illegal9E | .illegal9F | .illegalA3 | .illegalA7
  | .illegalAB | .illegalAF | .illegalB2 | .illegalB3 | .illegalB7 | .illegalBB | .illegalBF | .illegalC2
  | .illegalC3 | .illegalC7 | .illegalCB | .illegalCF | .illegalD2 | .illegalD3 | .illegalD4 | .illegalD7
  | .illegalDA | .illegalDB | .illegalDC | .illegalDF | .illegalE2 | .illegalE3 | .illegalE7 | .illegalEB
  | .illegalEF | .illegalF2 | .illegalF3 | .illegalF4 | .illegalF7 | .illegalFA | .illegalFB | .illegalFC
  | .illegalFF => none

/-- The operand of an instruction, under its format (R111, R116). -/
def Instr.operand : Instr → Operand
  | .ldaIzx z => .izx z | .ldaZp z => .zp z | .ldaImm m => .imm m | .ldaAbs addr => .abs addr | .ldaIzy z => .izy z | .ldaZpx z => .zpx z | .ldaAby addr => .aby addr | .ldaAbx addr => .abx addr
  | .ldxImm m => .imm m | .ldxZp z => .zp z | .ldxAbs addr => .abs addr | .ldxZpy z => .zpy z | .ldxAby addr => .aby addr
  | .ldyImm m => .imm m | .ldyZp z => .zp z | .ldyAbs addr => .abs addr | .ldyZpx z => .zpx z | .ldyAbx addr => .abx addr
  | .staIzx z => .izx z | .staZp z => .zp z | .staAbs addr => .abs addr | .staIzy z => .izy z | .staZpx z => .zpx z | .staAby addr => .aby addr | .staAbx addr => .abx addr
  | .stxZp z => .zp z | .stxAbs addr => .abs addr | .stxZpy z => .zpy z
  | .styZp z => .zp z | .styAbs addr => .abs addr | .styZpx z => .zpx z
  | .tax => .imp
  | .tay => .imp
  | .txa => .imp
  | .tya => .imp
  | .tsx => .imp
  | .txs => .imp
  | .adcIzx z => .izx z | .adcZp z => .zp z | .adcImm m => .imm m | .adcAbs addr => .abs addr | .adcIzy z => .izy z | .adcZpx z => .zpx z | .adcAby addr => .aby addr | .adcAbx addr => .abx addr
  | .sbcIzx z => .izx z | .sbcZp z => .zp z | .sbcImm m => .imm m | .sbcAbs addr => .abs addr | .sbcIzy z => .izy z | .sbcZpx z => .zpx z | .sbcAby addr => .aby addr | .sbcAbx addr => .abx addr
  | .andIzx z => .izx z | .andZp z => .zp z | .andImm m => .imm m | .andAbs addr => .abs addr | .andIzy z => .izy z | .andZpx z => .zpx z | .andAby addr => .aby addr | .andAbx addr => .abx addr
  | .oraIzx z => .izx z | .oraZp z => .zp z | .oraImm m => .imm m | .oraAbs addr => .abs addr | .oraIzy z => .izy z | .oraZpx z => .zpx z | .oraAby addr => .aby addr | .oraAbx addr => .abx addr
  | .eorIzx z => .izx z | .eorZp z => .zp z | .eorImm m => .imm m | .eorAbs addr => .abs addr | .eorIzy z => .izy z | .eorZpx z => .zpx z | .eorAby addr => .aby addr | .eorAbx addr => .abx addr
  | .cmpIzx z => .izx z | .cmpZp z => .zp z | .cmpImm m => .imm m | .cmpAbs addr => .abs addr | .cmpIzy z => .izy z | .cmpZpx z => .zpx z | .cmpAby addr => .aby addr | .cmpAbx addr => .abx addr
  | .cpxImm m => .imm m | .cpxZp z => .zp z | .cpxAbs addr => .abs addr
  | .cpyImm m => .imm m | .cpyZp z => .zp z | .cpyAbs addr => .abs addr
  | .bitZp z => .zp z | .bitAbs addr => .abs addr
  | .incZp z => .zp z | .incAbs addr => .abs addr | .incZpx z => .zpx z | .incAbx addr => .abx addr
  | .decZp z => .zp z | .decAbs addr => .abs addr | .decZpx z => .zpx z | .decAbx addr => .abx addr
  | .inx => .imp
  | .iny => .imp
  | .dex => .imp
  | .dey => .imp
  | .aslZp z => .zp z | .aslAcc => .acc | .aslAbs addr => .abs addr | .aslZpx z => .zpx z | .aslAbx addr => .abx addr
  | .lsrZp z => .zp z | .lsrAcc => .acc | .lsrAbs addr => .abs addr | .lsrZpx z => .zpx z | .lsrAbx addr => .abx addr
  | .rolZp z => .zp z | .rolAcc => .acc | .rolAbs addr => .abs addr | .rolZpx z => .zpx z | .rolAbx addr => .abx addr
  | .rorZp z => .zp z | .rorAcc => .acc | .rorAbs addr => .abs addr | .rorZpx z => .zpx z | .rorAbx addr => .abx addr
  | .bcc off => .rel off
  | .bcs off => .rel off
  | .beq off => .rel off
  | .bne off => .rel off
  | .bmi off => .rel off
  | .bpl off => .rel off
  | .bvc off => .rel off
  | .bvs off => .rel off
  | .jmpAbs addr => .abs addr | .jmpInd addr => .ind addr
  | .jsrAbs addr => .abs addr
  | .rts => .imp
  | .pha => .imp
  | .pla => .imp
  | .php => .imp
  | .plp => .imp
  | .clc => .imp
  | .sec => .imp
  | .cli => .imp
  | .sei => .imp
  | .cld => .imp
  | .sed => .imp
  | .clv => .imp
  | .nop => .imp
  | .brk => .imp
  | .rti => .imp
  | .illegal02 | .illegal03 | .illegal04 | .illegal07 | .illegal0B | .illegal0C | .illegal0F | .illegal12
  | .illegal13 | .illegal14 | .illegal17 | .illegal1A | .illegal1B | .illegal1C | .illegal1F | .illegal22
  | .illegal23 | .illegal27 | .illegal2B | .illegal2F | .illegal32 | .illegal33 | .illegal34 | .illegal37
  | .illegal3A | .illegal3B | .illegal3C | .illegal3F | .illegal42 | .illegal43 | .illegal44 | .illegal47
  | .illegal4B | .illegal4F | .illegal52 | .illegal53 | .illegal54 | .illegal57 | .illegal5A | .illegal5B
  | .illegal5C | .illegal5F | .illegal62 | .illegal63 | .illegal64 | .illegal67 | .illegal6B | .illegal6F
  | .illegal72 | .illegal73 | .illegal74 | .illegal77 | .illegal7A | .illegal7B | .illegal7C | .illegal7F
  | .illegal80 | .illegal82 | .illegal83 | .illegal87 | .illegal89 | .illegal8B | .illegal8F | .illegal92
  | .illegal93 | .illegal97 | .illegal9B | .illegal9C | .illegal9E | .illegal9F | .illegalA3 | .illegalA7
  | .illegalAB | .illegalAF | .illegalB2 | .illegalB3 | .illegalB7 | .illegalBB | .illegalBF | .illegalC2
  | .illegalC3 | .illegalC7 | .illegalCB | .illegalCF | .illegalD2 | .illegalD3 | .illegalD4 | .illegalD7
  | .illegalDA | .illegalDB | .illegalDC | .illegalDF | .illegalE2 | .illegalE3 | .illegalE7 | .illegalEB
  | .illegalEF | .illegalF2 | .illegalF3 | .illegalF4 | .illegalF7 | .illegalFA | .illegalFB | .illegalFC
  | .illegalFF => .imp

/-- The format of an operand (R111). -/
def formatOf : Operand → Format
  | .imp => .imp
  | .acc => .acc
  | .imm _ => .imm
  | .zp _ => .zp
  | .zpx _ => .zpx
  | .zpy _ => .zpy
  | .abs _ => .abs
  | .abx _ => .abx
  | .aby _ => .aby
  | .ind _ => .ind
  | .izx _ => .izx
  | .izy _ => .izy
  | .rel _ => .rel

/-- The length in bytes of an instruction with the opcode byte `op`, through its format (R110, R111): the parameter of D8. The
default is never taken: the list has every format. -/
def opcodeLength (op : Byte) : Nat := (config.lengths.lookup (formatOf (assemble op 0x00#8 0x00#8).operand)).getD 1

/-- How many operand bytes follow an opcode byte (R110: "The length is a function of the opcode alone"). -/
def operandBytes (op : Byte) : Nat := opcodeLength op - 1

/-- Why a list of bytes is no instruction: it ends too early. Every opcode byte has a row, so there is no other reason. -/
inductive DecodeError where
  /-- no byte at all -/
  | noOpcode
  /-- the opcode byte is there and an operand byte of its format is not -/
  | missingOperand (op : Byte)
  deriving DecidableEq, Repr

/-- Reads one instruction from the front of a list of bytes and gives the bytes after it. -/
def decode : List Byte → Except DecodeError (Instr × List Byte)
  | [] => .error .noOpcode
  | op :: rest =>
    match operandBytes op, rest with
    | 0, rest => .ok (assemble op 0x00#8 0x00#8, rest)
    | 1, b1 :: rest => .ok (assemble op b1 0x00#8, rest)
    | 2, b1 :: b2 :: rest => .ok (assemble op b1 b2, rest)
    | _, _ => .error (.missingOperand op)

/-- The operand bytes of an operand, the low byte of an address first (R111, R113). -/
def Operand.bytes : Operand → List Byte
  | .imp | .acc => []
  | .imm v | .zp v | .zpx v | .zpy v | .izx v | .izy v | .rel v => [v]
  | .abs v | .abx v | .aby v | .ind v => [loByte v, hiByte v]

/-- The bytes of an instruction, in ascending address order (R72, R111). -/
def encode (i : Instr) : List Byte := i.opcode :: i.operand.bytes

/-- The length of an instruction in bytes (R110, R111); BRK is one byte long for decoding (R112). -/
def Instr.length (i : Instr) : Nat := opcodeLength i.opcode

/-- The three bytes of an instruction word numbered as the opcode table numbers it: bit 0 is the least significant bit of
the first byte, and every bit from `nbits` on is zero. Three bytes are the longest instruction (R110). -/
def tableBytes (nbits w : Nat) : List Byte :=
  let v := w % 2 ^ nbits
  [BitVec.ofNat 8 v, BitVec.ofNat 8 (v / 256), BitVec.ofNat 8 (v / 65536)]

/-- The instruction the decoder reads from an instruction word of the opcode table. -/
def decodeTableWord (nbits w : Nat) : Option Instr :=
  match decode (tableBytes nbits w) with
  | .ok (i, _) => some i
  | .error _ => none

end Sys2Proof
end

