-- ==== Sys2Proof/Machine/Cycles.lean ====
section
/-! DEFINITION. Reading the two cycle tables of 30_encoding.md: `BASE_CYCLES` (R118) and `PAGE_SENSITIVE` (R119), both of them
parameters (`Config`). Cycle counts are architecture here: they decide how many dots follow an instruction
(70_reset_and_hazards.md R470). -/

namespace Sys2Proof.Machine

/-- `BASE_CYCLES[opcode]` (R118). -/
def baseCycles (op : Byte) : Nat := (config.baseCycles.getD (op.toNat / 16) []).getD (op.toNat % 16) 0

/-- The opcode is in `PAGE_SENSITIVE` (R119). -/
def pageSensitive (op : Byte) : Bool := config.pageSensitive.contains op

/-- `extra`, the page-cross penalty (R154). -/
def pageExtra (op : Byte) (crossed : Bool) : Nat := if crossed && pageSensitive op then 1 else 0

end Sys2Proof.Machine
end

