-- ==== Sys2Proof/Machine/Memory.lean ====
section
/-! DEFINITION. Byte arrays as plain data: a list of (address, byte) pairs in one canonical form, addresses strictly
rising and no entry equal to `MEM_INIT`, which is what an address that is not listed reads as (10_state.md R36, R51, R60:
every byte is 0x00 at reset except what the loader installs). `MEM` and `VRAM` are both held this way. -/

namespace Sys2Proof.Machine

/-- A byte array: the cells that do not hold `MEM_INIT`, by rising address. -/
abbrev Memory := List Host.Cell

/-- What an address that is not listed reads as (R60, D23): the parameter `MEM_INIT`, zero by default. -/
def Memory.unlisted : Byte := config.memInit

/-- The byte at `a`, with no side effect (R8: `MEM[a]` without a primitive). -/
def Memory.read : Memory → Nat → Byte
  | [], _ => Memory.unlisted
  | (k, b) :: rest, a => if k = a then b else Memory.read rest a

/-- Drops every entry at `a`. -/
def Memory.erase : Memory → Nat → Memory
  | [], _ => []
  | (k, b) :: rest, a => if k = a then Memory.erase rest a else (k, b) :: Memory.erase rest a

/-- `m` with the byte `v` at `a`. Writing what an unlisted address reads as removes the entry, so that equal arrays are
equal lists. -/
def Memory.write : Memory → Nat → Byte → Memory
  | [], a, v => if v = Memory.unlisted then [] else [(a, v)]
  | (k, b) :: rest, a, v =>
    if k < a then (k, b) :: Memory.write rest a v
    else if v = Memory.unlisted then Memory.erase ((k, b) :: rest) a
    else (a, v) :: (if k = a then rest else (k, b) :: rest)

/-- The canonical form from the address `lo` on, below `size`. -/
def Memory.wfFrom (lo size : Nat) : Memory → Bool
  | [] => true
  | (k, b) :: rest => decide (lo ≤ k) && decide (k < size) && (b != Memory.unlisted) && Memory.wfFrom (k + 1) size rest

/-- The canonical form of an array of `size` bytes: addresses strictly rising and below `size`, no entry equal to
what an unlisted address reads as. -/
def Memory.wf (m : Memory) (size : Nat) : Bool := Memory.wfFrom 0 size m

/-- Writes `v` at `a`, `a + 1`, … in turn. -/
def Memory.writeList (m : Memory) : List (Nat × Byte) → Memory
  | [] => m
  | (a, v) :: rest => Memory.writeList (Memory.write m a v) rest

/-- The number of bytes of the bus array (R36). -/
def busSize : Nat := 65536

/-- The number of bytes of `VRAM` (R51). -/
def vramSize : Nat := 16384

end Sys2Proof.Machine
end

