-- ==== Sys2Proof/Machine/State.lean ====
section
/-! DEFINITION. The state of the machine as plain data, in the four groups of 10_state.md, one per owner: the CPU (R20 to
R35), the bus array (R36), the PPU (R40 to R53) and the input device (R56 to R58); with it the host's input, the reasons
a step stops, and the state after reset (R60). -/

namespace Sys2Proof.Machine

/-- The kinds of `IQ` entry (R34, D12). -/
inductive IntKind where
  | nmi
  | irq
  deriving DecidableEq, Repr

/-- The CPU (R20 to R35). -/
structure Cpu where
  /-- `A`, the accumulator (R20) -/
  a : Byte
  /-- `X`, the X index register (R21) -/
  x : Byte
  /-- `Y`, the Y index register (R22) -/
  y : Byte
  /-- `SP`, the stack pointer (R23) -/
  sp : Byte
  /-- `P`, the status register (R25): C 0, Z 1, I 2, D 3, B 4, E 5, V 6, N 7 -/
  p : Byte
  /-- `PC`, the program counter (R24) -/
  pc : Word
  /-- `CYC`, the cycle counter, unbounded (R33) -/
  cyc : Nat
  /-- `IQ`, the pending-interrupt queue, oldest first (R34) -/
  iq : List IntKind
  /-- `HALT`, the fatal latch (R35) -/
  halt : Bool
  /-- `HALT_OPCODE`, the opcode the fatal report names (R35) -/
  haltOpcode : Byte
  /-- `HALT_CYC`, the cycle count the fatal report names (R35) -/
  haltCyc : Nat
  deriving DecidableEq, Repr

/-- One pixel of the frame buffer, its four bytes in the order they lie in `FB` (R52). -/
structure Pixel where
  r : Byte
  g : Byte
  b : Byte
  a : Byte
  deriving DecidableEq, Repr

/-- The PPU (R40 to R53). -/
structure Ppu where
  /-- `SL`, the scanline counter, 0 to 261 (R40) -/
  sl : Nat
  /-- `DOT`, the dot counter, 0 to 340 (R41) -/
  dot : Nat
  /-- `V`, the VRAM address (R42) -/
  v : VAddr
  /-- `T`, the temporary VRAM address (R43) -/
  t : VAddr
  /-- `FX`, the fine-X scroll, which nothing reads or writes (R44) -/
  fx : BitVec 3
  /-- `W`, the write toggle: false, the next write to 0x2006 is the first (R45) -/
  w : Bool
  /-- `NMIOCC`, the NMI-occurred flag (R46) -/
  nmiOcc : Bool
  /-- `NMIOUT`, the NMI-output-enable flag (R47) -/
  nmiOut : Bool
  /-- `RDBUF`, the data-read buffer (R48) -/
  rdbuf : Byte
  /-- `PPUCTRL`, the control register (R49) -/
  ctrl : Byte
  /-- `PPUSTATUS`, the status register (R50) -/
  status : Byte
  /-- `VRAM`, 16384 bytes (R51) -/
  vram : Memory
  /-- `FB`, the completed frame buffer: 256 x 240 pixels, row by row (R52) -/
  fb : List Pixel
  /-- The model's own record of an output: how many `FRAME_READY` pulses have been raised (R53; assumption log 5) -/
  framesRaised : Nat
  deriving DecidableEq, Repr

/-- The input device (R56 to R58). -/
structure Pad where
  /-- `BTN`, the live button state (R56) -/
  btn : Byte
  /-- `SR`, the controller shift register (R57) -/
  sr : Byte
  /-- `LATCH`, the continuous-latch flag (R58) -/
  latch : Bool
  deriving DecidableEq, Repr

/-- What the host may do between two system steps (R352, R354, R407). -/
inductive HostEvent where
  /-- `keydown(b)`, `b` in 0 to 7 (R352) -/
  | keydown (b : Fin 8)
  /-- `keyup(b)`, `b` in 0 to 7 (R352) -/
  | keyup (b : Fin 8)
  /-- `irq_request()` (R407) -/
  | irqRequest
  deriving DecidableEq, Repr

/-- The state of the whole machine. -/
structure State where
  /-- the CPU -/
  cpu : Cpu
  /-- `MEM`, the bus array of 65536 bytes (R36) -/
  mem : Memory
  /-- the PPU -/
  ppu : Ppu
  /-- the input device -/
  pad : Pad
  /-- The model's own input queue: entry `i` holds the host events that fall before the system step `i` steps from now
  (R352, R357: events fall only between system steps; assumption log 6) -/
  inbox : List (List HostEvent)
  deriving DecidableEq, Repr

/-- Why a step stops. -/
inductive Fault where
  /-- Raised by `step` when `HALT` is 1: "while it is 1 no CPU step, PPU step or system step exists" (R35, R402; U2 of
  93_implementation_defined.md: stuck). Safe: the hardware has no next state there. -/
  | halted
  deriving DecidableEq, Repr

/-- Why an instruction has no meaning. -/
inductive Refusal where
  /-- Raised by an arm of `exec` whose instruction has no meaning yet; no arm does. Safe. -/
  | notModelled (mnemonic : String)
  deriving DecidableEq, Repr

/-- The outcome of an instruction or a step. -/
abbrev Result := Host.Outcome State Fault Refusal

/-- The number of pixels of the frame buffer, 256 x 240 (R52). -/
def fbPixels : Nat := 61440

/-- A pixel whose four bytes are 0x00, as at reset (R52). -/
def Pixel.clear : Pixel := ⟨0x00#8, 0x00#8, 0x00#8, 0x00#8⟩

/-- The state power-on builds around the loaded arrays (R450, R60): every field at its reset value, then `PC` loaded from
the reset vector, low byte first (R451). -/
def State.powerOn (mem vram : Memory) : State where
  cpu :=
    { a := config.resetA, x := config.resetX, y := config.resetY, sp := config.resetSP, p := config.resetP,
      pc := joinBytes (mem.read (config.vecReset + 1#16).toNat) (mem.read config.vecReset.toNat),
      cyc := config.cycReset, iq := [], halt := false, haltOpcode := 0x00#8, haltCyc := 0 }
  mem := mem
  ppu :=
    { sl := config.resetLine, dot := config.resetDot, v := 0#15, t := 0#15, fx := 0#3, w := false,
      nmiOcc := false, nmiOut := false, rdbuf := 0x00#8, ctrl := 0x00#8, status := 0x00#8,
      vram := vram, fb := List.replicate fbPixels Pixel.clear, framesRaised := 0 }
  pad := { btn := 0x00#8, sr := 0x00#8, latch := false }
  inbox := []

/-- The machine right after reset with no image loaded: both arrays zero (R60), so `PC` is 0x0000 (R457, first row). -/
def State.reset : State := State.powerOn [] []

end Sys2Proof.Machine
end

