-- ==== Sys2Proof/Machine/Flags.lean ====
section
/-! DEFINITION. The flags of `P` (10_state.md R25 to R32) and every computation that writes them: `setZN` (R161), the adder
of ADC and SBC (R164), the compare (R165), and the status byte that is pushed and pulled (R262, R263). -/

namespace Sys2Proof.Machine

/-- The masks of the bits of `P` (R25). -/
def maskC : Byte := 0x01#8
/-- Zero -/
def maskZ : Byte := 0x02#8
/-- InterruptDisable -/
def maskI : Byte := 0x04#8
/-- Decimal -/
def maskD : Byte := 0x08#8
/-- Break -/
def maskB : Byte := 0x10#8
/-- Expansion -/
def maskE : Byte := 0x20#8
/-- Overflow -/
def maskV : Byte := 0x40#8
/-- Negative -/
def maskN : Byte := 0x80#8

/-- `P.C` (R26). -/
def Cpu.flagC (c : Cpu) : Bool := c.p.getLsbD 0
/-- `P.Z` (R27). -/
def Cpu.flagZ (c : Cpu) : Bool := c.p.getLsbD 1
/-- `P.I` (R28). -/
def Cpu.flagI (c : Cpu) : Bool := c.p.getLsbD 2
/-- `P.D` (R29). -/
def Cpu.flagD (c : Cpu) : Bool := c.p.getLsbD 3
/-- `P.B` (R30). -/
def Cpu.flagB (c : Cpu) : Bool := c.p.getLsbD 4
/-- `P.E` (R30). -/
def Cpu.flagE (c : Cpu) : Bool := c.p.getLsbD 5
/-- `P.V` (R31). -/
def Cpu.flagV (c : Cpu) : Bool := c.p.getLsbD 6
/-- `P.N` (R32). -/
def Cpu.flagN (c : Cpu) : Bool := c.p.getLsbD 7

/-- `p` with the bit of `mask` set to `v` and every other bit kept. -/
def putFlag (mask : Byte) (v : Bool) (p : Byte) : Byte := if v then p ||| mask else p &&& ~~~mask

/-- `P.C <- v`, and so on for each flag an instruction writes alone. -/
def Cpu.setC (v : Bool) (c : Cpu) : Cpu := { c with p := putFlag maskC v c.p }
/-- `P.Z <- v` -/
def Cpu.setZ (v : Bool) (c : Cpu) : Cpu := { c with p := putFlag maskZ v c.p }
/-- `P.I <- v` -/
def Cpu.setI (v : Bool) (c : Cpu) : Cpu := { c with p := putFlag maskI v c.p }
/-- `P.D <- v` -/
def Cpu.setD (v : Bool) (c : Cpu) : Cpu := { c with p := putFlag maskD v c.p }
/-- `P.V <- v` -/
def Cpu.setV (v : Bool) (c : Cpu) : Cpu := { c with p := putFlag maskV v c.p }
/-- `P.N <- v` -/
def Cpu.setN (v : Bool) (c : Cpu) : Cpu := { c with p := putFlag maskN v c.p }

/-- `setZN(v)`: Z iff `v` is 0, N is bit 7 of `v`; no other flag (R161). -/
def Cpu.setZN (v : Byte) (c : Cpu) : Cpu := (c.setZ (v == 0x00#8)).setN (v.getLsbD 7)

/-- The 9-bit sum `u + v + carry`, an integer 0 to 511 (R164, R165). -/
def nineBitSum (u v : Byte) (carry : Bool) : Nat := u.toNat + v.toNat + carry.toNat

/-- The overflow test `((a ^ r) & (b ^ r) & 0x80) != 0` (R31, R164). -/
def overflows (a b r : Byte) : Bool := ((a ^^^ r) &&& (b ^^^ r) &&& 0x80#8) != 0x00#8

/-- `adc_core(b)`, the one adder behind ADC and SBC, with the byte `vb` the overflow formula compares (R164). `P.D` is not
consulted (R29). -/
def Cpu.adcCore (b vb : Byte) (c : Cpu) : Cpu :=
  let sum := nineBitSum c.a b c.flagC
  let r := BitVec.ofNat 8 sum
  (({ c with a := r }.setC (decide (255 < sum))).setV (overflows c.a vb r)).setZN r

/-- ADC on the operand byte (R200). -/
def Cpu.adc (m : Byte) (c : Cpu) : Cpu := c.adcCore m m

/-- The byte the overflow formula of SBC compares: `SBC_V_OPERAND` (90_conflicts.md C10). -/
def sbcOverflowByte (m : Byte) : Byte :=
  match config.sbcVOperand with
  | .complemented => m ^^^ 0xFF#8
  | .raw => m

/-- SBC on the operand byte, the addition of its complement (R201). -/
def Cpu.sbc (m : Byte) (c : Cpu) : Cpu := c.adcCore (m ^^^ 0xFF#8) (sbcOverflowByte m)

/-- `cmp_core(r, m)` (R165): the carry of `r + ~m + 1`, Z and N of the difference; no register, no V, no incoming carry. -/
def Cpu.cmpCore (r m : Byte) (c : Cpu) : Cpu :=
  let sum := nineBitSum r (m ^^^ 0xFF#8) true
  (c.setC (decide (255 < sum))).setZN (BitVec.ofNat 8 sum)

/-- BIT (R208): Z from the and, N and V from bits 7 and 6 of the memory byte. -/
def Cpu.bitTest (m : Byte) (c : Cpu) : Cpu :=
  ((c.setZ ((c.a &&& m) == 0x00#8)).setN (m.getLsbD 7)).setV (m.getLsbD 6)

/-- The byte a status push stores, `P | 0x30` (R30, R262). -/
def pushedStatus (p : Byte) : Byte := p ||| 0x30#8

/-- What a status pull loads, `(pulled & 0xEF) | 0x20` (R30, R263). -/
def pulledStatus (v : Byte) : Byte := (v &&& 0xEF#8) ||| 0x20#8

end Sys2Proof.Machine
end

