-- ==== Sys2Proof/Machine/Pad.lean ====
section
/-! DEFINITION. The input device of 47_bus_sync_input.md: the two hooks of 0x4016 (R349, R350) and the host's button events
(R352). -/

namespace Sys2Proof.Machine

/-- Write of 0x4016: `LATCH` takes bit 0, and a 1 reseeds the shift register (R349, D21). -/
def Pad.onWrite4016 (d : Byte) (q : Pad) : Pad :=
  { q with latch := d.getLsbD 0, sr := if d.getLsbD 0 then q.btn else q.sr }

/-- Read of 0x4016: bit 0 of the shift register, which then moves right with a 1 entering bit 7 (R350). -/
def Pad.onRead4016 (q : Pad) : Byte × Pad :=
  (bitByte (q.sr.getLsbD 0), { q with sr := (q.sr >>> 1) ||| 0x80#8 })

/-- While the latch flag is set, a button event reseeds the shift register (R352, R58). -/
def Pad.reseed (q : Pad) : Pad := if q.latch then { q with sr := q.btn } else q

/-- The mask of button `b`: bits 0 to 7 are A, B, Select, Start, Up, Down, Left, Right (R56). -/
def buttonMask (b : Fin 8) : Byte := 0x01#8 <<< b.val

/-- `keydown(b)` (R352). -/
def Pad.keydown (b : Fin 8) (q : Pad) : Pad := Pad.reseed { q with btn := q.btn ||| buttonMask b }

/-- `keyup(b)` (R352). -/
def Pad.keyup (b : Fin 8) (q : Pad) : Pad := Pad.reseed { q with btn := q.btn &&& ~~~(buttonMask b) }

end Sys2Proof.Machine
end

