-- ==== Sys2Proof/Machine/Ppu.lean ====
section
/-! DEFINITION. The PPU of 46_ppu_timing_engine.md: its five register hooks (R311 to R318), the frame render (R323) and its
one step, a dot (R302). Everything here reads and writes the PPU's own state only (R302, R359). -/

namespace Sys2Proof.Machine

/-- `PPUSTATUS[7]`, the vblank flag, as a mask (R50). -/
def vblankMask : Byte := 0x80#8

/-- `PPUSTATUS[5]`, sprite overflow, as a mask (R50, D14). -/
def spriteOverflowMask : Byte := 0x20#8

/-- `inc`, 32 if `PPUCTRL[2]` is 1 and 1 otherwise (R318). -/
def Ppu.inc (p : Ppu) : VAddr := if p.ctrl.getLsbD 2 then 32#15 else 1#15

/-- The index of the VRAM cell that `V` names, `V[13:0]` (R318, D17). -/
def Ppu.vramIndex (p : Ppu) : Nat := (p.v.extractLsb' 0 14).toNat

/-- Write of the control register, 0x2000 (R312). -/
def Ppu.onWrite2000 (d : Byte) (p : Ppu) : Ppu := { p with ctrl := d, nmiOut := d.getLsbD 7 }

/-- Read of the status register, 0x2002: the value before the clear, and the state after it (R313). -/
def Ppu.onRead2002 (p : Ppu) : Byte × Ppu :=
  (p.status, { p with status := p.status &&& ~~~vblankMask, w := false, nmiOcc := false })

/-- Write of the address register, 0x2006: the high byte into `T`, then the low byte into `T` and all of it into `V` (R314). -/
def Ppu.onWrite2006 (d : Byte) (p : Ppu) : Ppu :=
  if p.w then
    let t : VAddr := p.t.extractLsb' 8 7 ++ d
    { p with t := t, v := t, w := false }
  else
    { p with t := (d.extractLsb' 0 7 ++ p.t.extractLsb' 0 8 : VAddr), w := true }

/-- Read of the data register, 0x2007: the previous buffered byte; then the buffer is refilled and `V` advances (R316). -/
def Ppu.onRead2007 (p : Ppu) : Byte × Ppu :=
  (p.rdbuf, { p with rdbuf := p.vram.read p.vramIndex, v := p.v + p.inc })

/-- Write of the data register, 0x2007 (R317). -/
def Ppu.onWrite2007 (d : Byte) (p : Ppu) : Ppu :=
  { p with vram := p.vram.write p.vramIndex d, v := p.v + p.inc }

/-- The pattern-table base of the render, chosen by `PPUCTRL[4]` (R323). -/
def Ppu.patternBase (p : Ppu) : Nat := if p.ctrl.getLsbD 4 then 0x1000 else 0x0000

/-- Whether the pixel in column `x` of line `y` is on: either bitplane has the bit `7 - c` set in row `r` of its tile (R323). -/
def Ppu.pixelOn (p : Ppu) (x y : Nat) : Bool :=
  let tile := (p.vram.read (0x2000 + (y / 8) * 32 + x / 8)).toNat
  let p0 := p.vram.read (p.patternBase + tile * 16 + y % 8)
  let p1 := p.vram.read (p.patternBase + tile * 16 + y % 8 + 8)
  p0.getLsbD (7 - x % 8) || p1.getLsbD (7 - x % 8)

/-- White, FF FF FF FF (R323). -/
def Pixel.white : Pixel := ⟨0xFF#8, 0xFF#8, 0xFF#8, 0xFF#8⟩

/-- Black, 00 00 00 FF (R323). -/
def Pixel.black : Pixel := ⟨0x00#8, 0x00#8, 0x00#8, 0xFF#8⟩

/-- `render_frame()`: the 256 x 240 pixels, row by row, each once (R323). -/
def Ppu.renderFrame (p : Ppu) : List Pixel :=
  (List.range fbPixels).map fun i => if p.pixelOn (i % 256) (i / 256) then Pixel.white else Pixel.black

/-- The byte `FB[n]`, as the host reads the frame buffer: pixel `n / 4`, component `n % 4` (R52). -/
def Ppu.fbByte (p : Ppu) (n : Nat) : Byte :=
  let q := p.fb.getD (n / 4) Pixel.clear
  match n % 4 with
  | 0 => q.r
  | 1 => q.g
  | 2 => q.b
  | _ => q.a

/-- The step begins at the coordinate `(line, dot)`. -/
def Ppu.isAt (line dot : Nat) (p : Ppu) : Bool := p.sl == line && p.dot == dot

/-- At (0, 0): render, and raise `FRAME_READY` (R304). -/
def Ppu.frameEvent (p : Ppu) : Ppu :=
  { p with
    fb := if p.isAt 0 0 then p.renderFrame else p.fb
    framesRaised := if p.isAt 0 0 then p.framesRaised + 1 else p.framesRaised }

/-- The step begins at (241, 1), the vblank set coordinate (R305). -/
def Ppu.atVblankStart (p : Ppu) : Bool := p.isAt config.vblankSetLine config.vblankDot

/-- The step begins at (261, 1), the vblank clear coordinate (R306). -/
def Ppu.atVblankEnd (p : Ppu) : Bool := p.isAt config.vblankClearLine config.vblankDot

/-- At (241, 1): the vblank flag and `NMIOCC` are set (R305). -/
def Ppu.vblankStart (p : Ppu) : Ppu :=
  { p with
    status := if p.atVblankStart then p.status ||| vblankMask else p.status
    nmiOcc := if p.atVblankStart then true else p.nmiOcc }

/-- At (261, 1): the vblank flag, the sprite-overflow flag and `NMIOCC` are cleared (R306). -/
def Ppu.vblankEnd (p : Ppu) : Ppu :=
  { p with
    status := if p.atVblankEnd then (p.status &&& ~~~vblankMask) &&& ~~~spriteOverflowMask else p.status
    nmiOcc := if p.atVblankEnd then false else p.nmiOcc }

/-- An NMI is raised on this dot: `NMIOCC = 1` and `NMIOUT = 1` (R308). -/
def Ppu.nmiDue (p : Ppu) : Bool := p.nmiOcc && p.nmiOut

/-- The raise disarms `NMIOUT` (R308). -/
def Ppu.disarm (p : Ppu) : Ppu := { p with nmiOut := if p.nmiDue then false else p.nmiOut }

/-- The counter advance: `DOT` first, and `SL` when `DOT` wraps (R309). -/
def Ppu.advance (p : Ppu) : Ppu :=
  { p with
    dot := if config.lastDot ≤ p.dot then 0 else p.dot + 1
    sl := if config.lastDot ≤ p.dot then (if p.sl = config.lastLine then 0 else p.sl + 1) else p.sl }

/-- What the coordinate events of one dot leave, before the NMI test (R302). -/
def Ppu.events (p : Ppu) : Ppu := p.frameEvent.vblankStart.vblankEnd

/-- One dot: the PPU after it, and whether it raised an NMI (R302). The coordinate events do not move the counters, so each
tests the coordinates the step began with. -/
def Ppu.tick (p : Ppu) : Ppu × Bool := (p.events.disarm.advance, p.events.nmiDue)

end Sys2Proof.Machine
end

