-- ==== Sys2Proof/Machine/Ops.lean ====
section
/-! DEFINITION. The shared operations over the whole state: the bus (47_bus_sync_input.md R341, R342), the stack (R162, R163),
taking an interrupt and returning from one (60_exceptions.md R410, R416), the fatal stop (R402), and the end of an
instruction: the advance of `PC` and the cycle count (R167). -/

namespace Sys2Proof.Machine

/-- A change of the CPU's own state. -/
def State.mapCpu (f : Cpu → Cpu) (s : State) : State := { s with cpu := f s.cpu }

/-- A change of the PPU's state. -/
def State.mapPpu (f : Ppu → Ppu) (s : State) : State := { s with ppu := f s.ppu }

/-- A change of the input device's state. -/
def State.mapPad (f : Pad → Pad) (s : State) : State := { s with pad := f s.pad }

/-- `MEM[a]` without a primitive: the raw byte (R8). -/
def State.peek (s : State) (a : Word) : Byte := s.mem.read a.toNat

/-- `MEM[a] <- v` without a primitive (R8). -/
def State.poke (s : State) (a : Word) (v : Byte) : State := { s with mem := s.mem.write a.toNat v }

/-- `MemRead(addr, 1)`: the byte, and the state after the read hook of a live address (R341). -/
def memRead (addr : Word) (s : State) : Byte × State :=
  if addr = 0x2002#16 then (s.ppu.onRead2002.1, { s with ppu := s.ppu.onRead2002.2 })
  else if addr = 0x2007#16 then (s.ppu.onRead2007.1, { s with ppu := s.ppu.onRead2007.2 })
  else if addr = 0x4016#16 then (s.pad.onRead4016.1, { s with pad := s.pad.onRead4016.2 })
  else (s.peek addr, s)

/-- The hook a write to `addr` runs, if it is a live address (R342). -/
def writeHook (addr : Word) (v : Byte) (s : State) : State :=
  if addr = 0x2000#16 then s.mapPpu (Ppu.onWrite2000 v)
  else if addr = 0x2006#16 then s.mapPpu (Ppu.onWrite2006 v)
  else if addr = 0x2007#16 then s.mapPpu (Ppu.onWrite2007 v)
  else if addr = 0x4016#16 then s.mapPad (Pad.onWrite4016 v)
  else s

/-- `MemWrite(addr, 1, v)`: the store, at every address, and then the hook (R342). -/
def memWrite (addr : Word) (v : Byte) (s : State) : State := writeHook addr v (s.poke addr v)

/-- `push(v)`: write, then decrement `SP` (R162). -/
def push (v : Byte) (s : State) : State :=
  (memWrite (stackAddr s.cpu.sp) v s).mapCpu fun c => { c with sp := c.sp - 1#8 }

/-- `pull()`: increment `SP`, then read (R163). -/
def pull (s : State) : Byte × State :=
  let s1 := s.mapCpu fun c => { c with sp := c.sp + 1#8 }
  memRead (stackAddr s1.cpu.sp) s1

/-- The two pushes of a 16-bit value, the high byte first (R71). -/
def pushWord (v : Word) (s : State) : State := push (loByte v) (push (hiByte v) s)

/-- The two pulls of a 16-bit value, the low byte first (R250, R273). -/
def pullWord (s : State) : Word × State :=
  let lo := pull s
  let hi := pull lo.2
  (joinBytes hi.1 lo.1, hi.2)

/-- `Read16(a)`: the low byte at `a`, the high byte at the next address, in that order (R8). -/
def read16 (a : Word) (s : State) : Word × State :=
  let lo := memRead a s
  let hi := memRead (a + 1#16) lo.2
  (joinBytes hi.1 lo.1, hi.2)

/-- `PC <- target`. -/
def State.jump (target : Word) (s : State) : State := s.mapCpu fun c => { c with pc := target }

/-- `CYC <- CYC + n` (R167). -/
def State.spend (n : Nat) (s : State) : State := s.mapCpu fun c => { c with cyc := c.cyc + n }

/-- The entry shared by BRK (R272) and the interrupt service (R410): the return address and `P | 0x30` are pushed, `P.I` is
set, and `PC` is loaded from the vector, low byte first. -/
def enterVector (ret vec : Word) (s : State) : State :=
  let s1 := push (pushedStatus s.cpu.p) (pushWord ret s)
  let s2 := s1.mapCpu (Cpu.setI true)
  let target := read16 vec s2
  target.2.jump target.1

/-- The return of RTI: pull `P`, then `PC` low and high, with no adjustment (R273, R416). -/
def returnFromInterrupt (s : State) : State :=
  let v := pull s
  let s1 := v.2.mapCpu fun c => { c with p := pulledStatus v.1 }
  let target := pullWord s1
  target.2.jump target.1

/-- The vector of an interrupt kind (R410, R413). -/
def vectorOf : IntKind → Word
  | .nmi => config.vecNmi
  | .irq => config.vecIrq

/-- `raise Interrupt(kind)`: the kind goes to the tail of `IQ`, and nothing else changes (R406). -/
def raiseInterrupt (k : IntKind) (s : State) : State := s.mapCpu fun c => { c with iq := c.iq ++ [k] }

/-- `service_interrupt()` for the head `k` of `IQ`: the entry through its vector, the whole queue emptied, 7 cycles (R410). -/
def serviceInterrupt (k : IntKind) (s : State) : State :=
  ((enterVector s.cpu.pc (vectorOf k) s).mapCpu fun c => { c with iq := [] }).spend config.intCycles

/-- `raise Fatal(op, CYC)`: the latch and the two values of the report; nothing else (R402, R403). -/
def raiseFatal (op : Byte) (s : State) : State :=
  s.mapCpu fun c => { c with halt := true, haltOpcode := op, haltCyc := c.cyc }

/-- The end of an instruction that falls through: `PC <- (PC + length) mod 65536`, and
`CYC <- CYC + BASE_CYCLES[op] + extra` (R167, R154). -/
def retire (op : Byte) (crossed : Bool) (s : State) : State :=
  s.mapCpu fun c =>
    { c with pc := c.pc + BitVec.ofNat 16 (opcodeLength op), cyc := c.cyc + (baseCycles op + pageExtra op crossed) }

/-- The end of an instruction that sets `PC` itself (R167): only the cycles. -/
def retireAt (op : Byte) (s : State) : State := s.spend (baseCycles op)

/-- One PPU dot: the PPU's own step, and an NMI appended to `IQ` if it raised one (R302, R406). -/
def ppuStep (s : State) : State :=
  { s with
    ppu := s.ppu.tick.1
    cpu := { s.cpu with iq := if s.ppu.tick.2 then s.cpu.iq ++ [.nmi] else s.cpu.iq } }

/-- `n` PPU dots in turn (R356). -/
def runDots : Nat → State → State
  | 0, s => s
  | n + 1, s => runDots n (ppuStep s)

end Sys2Proof.Machine
end

