-- ==== Sys2Proof/Machine/Operands.lean ====
section
/-! DEFINITION. The operand forms: the resolvers of 40_addressing_and_helpers.md (R141 to R153), and the shapes in which an
instruction uses an operand. The operand bytes themselves are read by the fetch (Machine/Fetch.lean), in the order of
R155, and come in the instruction; a resolver makes the pointer reads that follow. -/

namespace Sys2Proof.Machine

/-- What a resolver answers: `ea`, `crossed`, and the state after its pointer reads (R140). -/
structure Resolved where
  addr : Word
  crossed : Bool
  st : State
  deriving DecidableEq, Repr

/-- `ea_zp` (R142). -/
def eaZp (z : Byte) (s : State) : Resolved := ⟨zext16 z, false, s⟩

/-- `ea_zpx`: the sum wraps within page zero (R143). -/
def eaZpx (z : Byte) (s : State) : Resolved := ⟨zext16 (z + s.cpu.x), false, s⟩

/-- `ea_zpy` (R144). -/
def eaZpy (z : Byte) (s : State) : Resolved := ⟨zext16 (z + s.cpu.y), false, s⟩

/-- `ea_abs` (R145). -/
def eaAbs (addr : Word) (s : State) : Resolved := ⟨addr, false, s⟩

/-- A base address and an index, with the page-cross test (R146, R147, R150). -/
def indexed (base : Word) (index : Byte) (s : State) : Resolved :=
  ⟨base + zext16 index, pagesDiffer base (base + zext16 index), s⟩

/-- `ea_abx` (R146). -/
def eaAbx (addr : Word) (s : State) : Resolved := indexed addr s.cpu.x s

/-- `ea_aby` (R147). -/
def eaAby (addr : Word) (s : State) : Resolved := indexed addr s.cpu.y s

/-- `ea_ind`: the high byte of the target comes from the same page as the low byte (R148). -/
def eaInd (p : Word) (s : State) : Resolved :=
  let lo := memRead p s
  let hi := memRead (nextInPage p) lo.2
  ⟨joinBytes hi.1 lo.1, false, hi.2⟩

/-- The two reads of a pointer in page zero, whose high byte stays in page zero (R149, R150, R74). -/
def zpPointer (q : Byte) (s : State) : Word × State :=
  let lo := memRead (zext16 q) s
  let hi := memRead (zext16 (q + 1#8)) lo.2
  (joinBytes hi.1 lo.1, hi.2)

/-- `ea_izx` (R149). -/
def eaIzx (z : Byte) (s : State) : Resolved :=
  let p := zpPointer (z + s.cpu.x) s
  ⟨p.1, false, p.2⟩

/-- `ea_izy` (R150). -/
def eaIzy (z : Byte) (s : State) : Resolved :=
  let p := zpPointer z s
  indexed p.1 s.cpu.y p.2

/-- `ea_imm`: the address of the operand byte, the instruction's second byte (R141). -/
def eaImm (s : State) : Resolved := ⟨s.cpu.pc + 1#16, false, s⟩

/-- The resolver of an operand form (R111). Implied, accumulator and relative operands have no effective address (R151 to
R153); for them it answers the address after the opcode byte, which no instruction uses. -/
def resolve (o : Operand) (s : State) : Resolved :=
  match o with
  | .imm _ | .imp | .acc | .rel _ => eaImm s
  | .zp z => eaZp z s
  | .zpx z => eaZpx z s
  | .zpy z => eaZpy z s
  | .abs a => eaAbs a s
  | .abx a => eaAbx a s
  | .aby a => eaAby a s
  | .ind a => eaInd a s
  | .izx z => eaIzx z s
  | .izy z => eaIzy z s

/-- `operand()` (R10): the byte an operand form reads, and the state after its pointer reads and its data read. An immediate
byte is the one the fetch read (R141). -/
def operandValue (o : Operand) (s : State) : Byte × State :=
  match o with
  | .imm m => (m, s)
  | o => memRead (resolve o s).addr (resolve o s).st

/-- An immediate operand: the byte the fetch read at `PC + 1` is the operand (R141). -/
def immediate (op m : Byte) (f : Byte → Cpu → Cpu) (s : State) : State := retire op false (s.mapCpu (f m))

/-- A memory operand that is read: `M <- MemRead(ea, 1)`, then the instruction's effect on the CPU (R140, R180). -/
def readOperand (op : Byte) (r : Resolved) (f : Byte → Cpu → Cpu) : State :=
  let m := memRead r.addr r.st
  retire op r.crossed (m.2.mapCpu (f m.1))

/-- A store: `MemWrite(ea, 1, v)` (R183). -/
def storeOperand (op : Byte) (r : Resolved) (reg : Cpu → Byte) : State :=
  retire op r.crossed (memWrite r.addr (reg r.st.cpu) r.st)

/-- A read-modify-write: one read, one write of the same address (R209, R230; 20_memory.md R79). `f` gives the byte written
and the CPU with its flags. -/
def modifyOperand (op : Byte) (r : Resolved) (f : Byte → Cpu → Byte × Cpu) : State :=
  let m := memRead r.addr r.st
  let q := f m.1 m.2.cpu
  retire op r.crossed (memWrite r.addr q.1 (m.2.mapCpu fun _ => q.2))

/-- The accumulator form: `A` is source and destination, and there is no data access (R153). -/
def modifyAccumulator (op : Byte) (f : Byte → Cpu → Byte × Cpu) (s : State) : State :=
  retire op false (s.mapCpu fun c => { (f c.a c).2 with a := (f c.a c).1 })

/-- An implied instruction that works on registers (R152). -/
def inherent (op : Byte) (f : Cpu → Cpu) (s : State) : State := retire op false (s.mapCpu f)

/-- The cycles a branch adds: 0 not taken, 1 taken, 2 taken into a page other than that of `PC + 2` (R166). -/
def branchExtra (taken : Bool) (next target : Word) : Nat :=
  if taken then (if pagesDiffer target next then 2 else 1) else 0

/-- `branch(cond, off)`, the shared routine of the eight branches (R166). -/
def branch (op : Byte) (taken : Bool) (off : Byte) (s : State) : State :=
  let next := s.cpu.pc + 2#16
  let target := next + sext16 off
  (retireAt op (s.jump (if taken then target else next))).spend (branchExtra taken next target)

end Sys2Proof.Machine
end

