-- ==== Sys2Proof/Machine/Arithmetic.lean ====
section
/-! DEFINITION. Arithmetic, logic, compare, increment and decrement (42_arithmetic_logic.md): what each
mnemonic does to the CPU (ADC, SBC, the compares and BIT compute in Machine/Flags.lean), then one meaning per opcode. -/

namespace Sys2Proof.Machine

/-- `A <- A & M; setZN(A)` (R202). -/
def Cpu.andA (m : Byte) (c : Cpu) : Cpu := { c with a := c.a &&& m }.setZN (c.a &&& m)

/-- `A <- A | M; setZN(A)` (R203). -/
def Cpu.oraA (m : Byte) (c : Cpu) : Cpu := { c with a := c.a ||| m }.setZN (c.a ||| m)

/-- `A <- A ^ M; setZN(A)` (R204). -/
def Cpu.eorA (m : Byte) (c : Cpu) : Cpu := { c with a := c.a ^^^ m }.setZN (c.a ^^^ m)

/-- `cmp_core(A, M)` (R205). -/
def Cpu.cmpA (m : Byte) (c : Cpu) : Cpu := c.cmpCore c.a m

/-- `cmp_core(X, M)` (R206). -/
def Cpu.cmpX (m : Byte) (c : Cpu) : Cpu := c.cmpCore c.x m

/-- `cmp_core(Y, M)` (R207). -/
def Cpu.cmpY (m : Byte) (c : Cpu) : Cpu := c.cmpCore c.y m

/-- `r <- (M + 1) mod 256; setZN(r)` (R209). -/
def Cpu.incM (m : Byte) (c : Cpu) : Byte × Cpu := (m + 1#8, c.setZN (m + 1#8))

/-- `r <- (M - 1) mod 256; setZN(r)` (R210). -/
def Cpu.decM (m : Byte) (c : Cpu) : Byte × Cpu := (m - 1#8, c.setZN (m - 1#8))

/-- `X <- (X + 1) mod 256; setZN(X)` (R211). -/
def Cpu.inx (c : Cpu) : Cpu := { c with x := c.x + 1#8 }.setZN (c.x + 1#8)

/-- `Y <- (Y + 1) mod 256; setZN(Y)` (R212). -/
def Cpu.iny (c : Cpu) : Cpu := { c with y := c.y + 1#8 }.setZN (c.y + 1#8)

/-- `X <- (X - 1) mod 256; setZN(X)` (R213). -/
def Cpu.dex (c : Cpu) : Cpu := { c with x := c.x - 1#8 }.setZN (c.x - 1#8)

/-- `Y <- (Y - 1) mod 256; setZN(Y)` (R214). -/
def Cpu.dey (c : Cpu) : Cpu := { c with y := c.y - 1#8 }.setZN (c.y - 1#8)

/-- ADC, indirect-X, 0x61 (R200). -/
def execAdcIzx (z : Byte) (s : State) : Result := .next (readOperand 0x61#8 (eaIzx z s) Cpu.adc)

/-- ADC, zeropage, 0x65 (R200). -/
def execAdcZp (z : Byte) (s : State) : Result := .next (readOperand 0x65#8 (eaZp z s) Cpu.adc)

/-- ADC, immediate, 0x69 (R200). -/
def execAdcImm (m : Byte) (s : State) : Result := .next (immediate 0x69#8 m Cpu.adc s)

/-- ADC, absolute, 0x6D (R200). -/
def execAdcAbs (addr : Word) (s : State) : Result := .next (readOperand 0x6D#8 (eaAbs addr s) Cpu.adc)

/-- ADC, indirect-Y, 0x71 (R200). -/
def execAdcIzy (z : Byte) (s : State) : Result := .next (readOperand 0x71#8 (eaIzy z s) Cpu.adc)

/-- ADC, zeropage-X, 0x75 (R200). -/
def execAdcZpx (z : Byte) (s : State) : Result := .next (readOperand 0x75#8 (eaZpx z s) Cpu.adc)

/-- ADC, absolute-Y, 0x79 (R200). -/
def execAdcAby (addr : Word) (s : State) : Result := .next (readOperand 0x79#8 (eaAby addr s) Cpu.adc)

/-- ADC, absolute-X, 0x7D (R200). -/
def execAdcAbx (addr : Word) (s : State) : Result := .next (readOperand 0x7D#8 (eaAbx addr s) Cpu.adc)

/-- SBC, indirect-X, 0xE1 (R201). -/
def execSbcIzx (z : Byte) (s : State) : Result := .next (readOperand 0xE1#8 (eaIzx z s) Cpu.sbc)

/-- SBC, zeropage, 0xE5 (R201). -/
def execSbcZp (z : Byte) (s : State) : Result := .next (readOperand 0xE5#8 (eaZp z s) Cpu.sbc)

/-- SBC, immediate, 0xE9 (R201). -/
def execSbcImm (m : Byte) (s : State) : Result := .next (immediate 0xE9#8 m Cpu.sbc s)

/-- SBC, absolute, 0xED (R201). -/
def execSbcAbs (addr : Word) (s : State) : Result := .next (readOperand 0xED#8 (eaAbs addr s) Cpu.sbc)

/-- SBC, indirect-Y, 0xF1 (R201). -/
def execSbcIzy (z : Byte) (s : State) : Result := .next (readOperand 0xF1#8 (eaIzy z s) Cpu.sbc)

/-- SBC, zeropage-X, 0xF5 (R201). -/
def execSbcZpx (z : Byte) (s : State) : Result := .next (readOperand 0xF5#8 (eaZpx z s) Cpu.sbc)

/-- SBC, absolute-Y, 0xF9 (R201). -/
def execSbcAby (addr : Word) (s : State) : Result := .next (readOperand 0xF9#8 (eaAby addr s) Cpu.sbc)

/-- SBC, absolute-X, 0xFD (R201). -/
def execSbcAbx (addr : Word) (s : State) : Result := .next (readOperand 0xFD#8 (eaAbx addr s) Cpu.sbc)

/-- AND, indirect-X, 0x21 (R202). -/
def execAndIzx (z : Byte) (s : State) : Result := .next (readOperand 0x21#8 (eaIzx z s) Cpu.andA)

/-- AND, zeropage, 0x25 (R202). -/
def execAndZp (z : Byte) (s : State) : Result := .next (readOperand 0x25#8 (eaZp z s) Cpu.andA)

/-- AND, immediate, 0x29 (R202). -/
def execAndImm (m : Byte) (s : State) : Result := .next (immediate 0x29#8 m Cpu.andA s)

/-- AND, absolute, 0x2D (R202). -/
def execAndAbs (addr : Word) (s : State) : Result := .next (readOperand 0x2D#8 (eaAbs addr s) Cpu.andA)

/-- AND, indirect-Y, 0x31 (R202). -/
def execAndIzy (z : Byte) (s : State) : Result := .next (readOperand 0x31#8 (eaIzy z s) Cpu.andA)

/-- AND, zeropage-X, 0x35 (R202). -/
def execAndZpx (z : Byte) (s : State) : Result := .next (readOperand 0x35#8 (eaZpx z s) Cpu.andA)

/-- AND, absolute-Y, 0x39 (R202). -/
def execAndAby (addr : Word) (s : State) : Result := .next (readOperand 0x39#8 (eaAby addr s) Cpu.andA)

/-- AND, absolute-X, 0x3D (R202). -/
def execAndAbx (addr : Word) (s : State) : Result := .next (readOperand 0x3D#8 (eaAbx addr s) Cpu.andA)

/-- ORA, indirect-X, 0x01 (R203). -/
def execOraIzx (z : Byte) (s : State) : Result := .next (readOperand 0x01#8 (eaIzx z s) Cpu.oraA)

/-- ORA, zeropage, 0x05 (R203). -/
def execOraZp (z : Byte) (s : State) : Result := .next (readOperand 0x05#8 (eaZp z s) Cpu.oraA)

/-- ORA, immediate, 0x09 (R203). -/
def execOraImm (m : Byte) (s : State) : Result := .next (immediate 0x09#8 m Cpu.oraA s)

/-- ORA, absolute, 0x0D (R203). -/
def execOraAbs (addr : Word) (s : State) : Result := .next (readOperand 0x0D#8 (eaAbs addr s) Cpu.oraA)

/-- ORA, indirect-Y, 0x11 (R203). -/
def execOraIzy (z : Byte) (s : State) : Result := .next (readOperand 0x11#8 (eaIzy z s) Cpu.oraA)

/-- ORA, zeropage-X, 0x15 (R203). -/
def execOraZpx (z : Byte) (s : State) : Result := .next (readOperand 0x15#8 (eaZpx z s) Cpu.oraA)

/-- ORA, absolute-Y, 0x19 (R203). -/
def execOraAby (addr : Word) (s : State) : Result := .next (readOperand 0x19#8 (eaAby addr s) Cpu.oraA)

/-- ORA, absolute-X, 0x1D (R203). -/
def execOraAbx (addr : Word) (s : State) : Result := .next (readOperand 0x1D#8 (eaAbx addr s) Cpu.oraA)

/-- EOR, indirect-X, 0x41 (R204). -/
def execEorIzx (z : Byte) (s : State) : Result := .next (readOperand 0x41#8 (eaIzx z s) Cpu.eorA)

/-- EOR, zeropage, 0x45 (R204). -/
def execEorZp (z : Byte) (s : State) : Result := .next (readOperand 0x45#8 (eaZp z s) Cpu.eorA)

/-- EOR, immediate, 0x49 (R204). -/
def execEorImm (m : Byte) (s : State) : Result := .next (immediate 0x49#8 m Cpu.eorA s)

/-- EOR, absolute, 0x4D (R204). -/
def execEorAbs (addr : Word) (s : State) : Result := .next (readOperand 0x4D#8 (eaAbs addr s) Cpu.eorA)

/-- EOR, indirect-Y, 0x51 (R204). -/
def execEorIzy (z : Byte) (s : State) : Result := .next (readOperand 0x51#8 (eaIzy z s) Cpu.eorA)

/-- EOR, zeropage-X, 0x55 (R204). -/
def execEorZpx (z : Byte) (s : State) : Result := .next (readOperand 0x55#8 (eaZpx z s) Cpu.eorA)

/-- EOR, absolute-Y, 0x59 (R204). -/
def execEorAby (addr : Word) (s : State) : Result := .next (readOperand 0x59#8 (eaAby addr s) Cpu.eorA)

/-- EOR, absolute-X, 0x5D (R204). -/
def execEorAbx (addr : Word) (s : State) : Result := .next (readOperand 0x5D#8 (eaAbx addr s) Cpu.eorA)

/-- CMP, indirect-X, 0xC1 (R205). -/
def execCmpIzx (z : Byte) (s : State) : Result := .next (readOperand 0xC1#8 (eaIzx z s) Cpu.cmpA)

/-- CMP, zeropage, 0xC5 (R205). -/
def execCmpZp (z : Byte) (s : State) : Result := .next (readOperand 0xC5#8 (eaZp z s) Cpu.cmpA)

/-- CMP, immediate, 0xC9 (R205). -/
def execCmpImm (m : Byte) (s : State) : Result := .next (immediate 0xC9#8 m Cpu.cmpA s)

/-- CMP, absolute, 0xCD (R205). -/
def execCmpAbs (addr : Word) (s : State) : Result := .next (readOperand 0xCD#8 (eaAbs addr s) Cpu.cmpA)

/-- CMP, indirect-Y, 0xD1 (R205). -/
def execCmpIzy (z : Byte) (s : State) : Result := .next (readOperand 0xD1#8 (eaIzy z s) Cpu.cmpA)

/-- CMP, zeropage-X, 0xD5 (R205). -/
def execCmpZpx (z : Byte) (s : State) : Result := .next (readOperand 0xD5#8 (eaZpx z s) Cpu.cmpA)

/-- CMP, absolute-Y, 0xD9 (R205). -/
def execCmpAby (addr : Word) (s : State) : Result := .next (readOperand 0xD9#8 (eaAby addr s) Cpu.cmpA)

/-- CMP, absolute-X, 0xDD (R205). -/
def execCmpAbx (addr : Word) (s : State) : Result := .next (readOperand 0xDD#8 (eaAbx addr s) Cpu.cmpA)

/-- CPX, immediate, 0xE0 (R206). -/
def execCpxImm (m : Byte) (s : State) : Result := .next (immediate 0xE0#8 m Cpu.cmpX s)

/-- CPX, zeropage, 0xE4 (R206). -/
def execCpxZp (z : Byte) (s : State) : Result := .next (readOperand 0xE4#8 (eaZp z s) Cpu.cmpX)

/-- CPX, absolute, 0xEC (R206). -/
def execCpxAbs (addr : Word) (s : State) : Result := .next (readOperand 0xEC#8 (eaAbs addr s) Cpu.cmpX)

/-- CPY, immediate, 0xC0 (R207). -/
def execCpyImm (m : Byte) (s : State) : Result := .next (immediate 0xC0#8 m Cpu.cmpY s)

/-- CPY, zeropage, 0xC4 (R207). -/
def execCpyZp (z : Byte) (s : State) : Result := .next (readOperand 0xC4#8 (eaZp z s) Cpu.cmpY)

/-- CPY, absolute, 0xCC (R207). -/
def execCpyAbs (addr : Word) (s : State) : Result := .next (readOperand 0xCC#8 (eaAbs addr s) Cpu.cmpY)

/-- BIT, zeropage, 0x24 (R208). -/
def execBitZp (z : Byte) (s : State) : Result := .next (readOperand 0x24#8 (eaZp z s) Cpu.bitTest)

/-- BIT, absolute, 0x2C (R208). -/
def execBitAbs (addr : Word) (s : State) : Result := .next (readOperand 0x2C#8 (eaAbs addr s) Cpu.bitTest)

/-- INC, zeropage, 0xE6 (R209). -/
def execIncZp (z : Byte) (s : State) : Result := .next (modifyOperand 0xE6#8 (eaZp z s) Cpu.incM)

/-- INC, absolute, 0xEE (R209). -/
def execIncAbs (addr : Word) (s : State) : Result := .next (modifyOperand 0xEE#8 (eaAbs addr s) Cpu.incM)

/-- INC, zeropage-X, 0xF6 (R209). -/
def execIncZpx (z : Byte) (s : State) : Result := .next (modifyOperand 0xF6#8 (eaZpx z s) Cpu.incM)

/-- INC, absolute-X, 0xFE (R209). -/
def execIncAbx (addr : Word) (s : State) : Result := .next (modifyOperand 0xFE#8 (eaAbx addr s) Cpu.incM)

/-- DEC, zeropage, 0xC6 (R210). -/
def execDecZp (z : Byte) (s : State) : Result := .next (modifyOperand 0xC6#8 (eaZp z s) Cpu.decM)

/-- DEC, absolute, 0xCE (R210). -/
def execDecAbs (addr : Word) (s : State) : Result := .next (modifyOperand 0xCE#8 (eaAbs addr s) Cpu.decM)

/-- DEC, zeropage-X, 0xD6 (R210). -/
def execDecZpx (z : Byte) (s : State) : Result := .next (modifyOperand 0xD6#8 (eaZpx z s) Cpu.decM)

/-- DEC, absolute-X, 0xDE (R210). -/
def execDecAbx (addr : Word) (s : State) : Result := .next (modifyOperand 0xDE#8 (eaAbx addr s) Cpu.decM)

/-- INX, 0xE8 (R211). -/
def execInx (s : State) : Result := .next (inherent 0xE8#8 Cpu.inx s)

/-- INY, 0xC8 (R212). -/
def execIny (s : State) : Result := .next (inherent 0xC8#8 Cpu.iny s)

/-- DEX, 0xCA (R213). -/
def execDex (s : State) : Result := .next (inherent 0xCA#8 Cpu.dex s)

/-- DEY, 0x88 (R214). -/
def execDey (s : State) : Result := .next (inherent 0x88#8 Cpu.dey s)

end Sys2Proof.Machine
end

