-- ==== Sys2Proof/Machine/Control.lean ====
section
/-! DEFINITION. Branches, jumps, calls and returns (44_branch_jump.md), one meaning per opcode. -/

namespace Sys2Proof.Machine

/-- BCC, 0x90 (R240). -/
def execBcc (off : Byte) (s : State) : Result := .next (branch 0x90#8 (!s.cpu.flagC) off s)

/-- BCS, 0xB0 (R241). -/
def execBcs (off : Byte) (s : State) : Result := .next (branch 0xB0#8 s.cpu.flagC off s)

/-- BEQ, 0xF0 (R242). -/
def execBeq (off : Byte) (s : State) : Result := .next (branch 0xF0#8 s.cpu.flagZ off s)

/-- BNE, 0xD0 (R243). -/
def execBne (off : Byte) (s : State) : Result := .next (branch 0xD0#8 (!s.cpu.flagZ) off s)

/-- BMI, 0x30 (R244). -/
def execBmi (off : Byte) (s : State) : Result := .next (branch 0x30#8 s.cpu.flagN off s)

/-- BPL, 0x10 (R245). -/
def execBpl (off : Byte) (s : State) : Result := .next (branch 0x10#8 (!s.cpu.flagN) off s)

/-- BVC, 0x50 (R246). -/
def execBvc (off : Byte) (s : State) : Result := .next (branch 0x50#8 (!s.cpu.flagV) off s)

/-- BVS, 0x70 (R247). -/
def execBvs (off : Byte) (s : State) : Result := .next (branch 0x70#8 s.cpu.flagV off s)

/-- JMP, absolute, 0x4C (R248). -/
def execJmpAbs (addr : Word) (s : State) : Result :=
  let r := eaAbs addr s
  .next (retireAt 0x4C#8 (r.st.jump r.addr))

/-- JMP, indirect, 0x6C (R248). -/
def execJmpInd (addr : Word) (s : State) : Result :=
  let r := eaInd addr s
  .next (retireAt 0x6C#8 (r.st.jump r.addr))

/-- JSR, absolute, 0x20 (R249). -/
def execJsrAbs (addr : Word) (s : State) : Result :=
  let r := eaAbs addr s
  .next (retireAt 0x20#8 ((pushWord (s.cpu.pc + 2#16) r.st).jump r.addr))

/-- RTS, 0x60 (R250). -/
def execRts (s : State) : Result :=
  let r := pullWord s
  .next (retireAt 0x60#8 (r.2.jump (r.1 + 1#16)))

end Sys2Proof.Machine
end

