-- ==== Sys2Proof/Machine/Gap.lean ====
section
/-! DEFINITION. The 105 gaps of the dispatch tables (30_encoding.md R121): fetching one as an opcode does
`raise Fatal(op, CYC)`, whose effect is 60_exceptions.md R402. One meaning per opcode byte. -/

namespace Sys2Proof.Machine

def execIllegal02 (s : State) : Result := .next (raiseFatal 0x02#8 s)
def execIllegal03 (s : State) : Result := .next (raiseFatal 0x03#8 s)
def execIllegal04 (s : State) : Result := .next (raiseFatal 0x04#8 s)
def execIllegal07 (s : State) : Result := .next (raiseFatal 0x07#8 s)
def execIllegal0B (s : State) : Result := .next (raiseFatal 0x0B#8 s)
def execIllegal0C (s : State) : Result := .next (raiseFatal 0x0C#8 s)
def execIllegal0F (s : State) : Result := .next (raiseFatal 0x0F#8 s)
def execIllegal12 (s : State) : Result := .next (raiseFatal 0x12#8 s)
def execIllegal13 (s : State) : Result := .next (raiseFatal 0x13#8 s)
def execIllegal14 (s : State) : Result := .next (raiseFatal 0x14#8 s)
def execIllegal17 (s : State) : Result := .next (raiseFatal 0x17#8 s)
def execIllegal1A (s : State) : Result := .next (raiseFatal 0x1A#8 s)
def execIllegal1B (s : State) : Result := .next (raiseFatal 0x1B#8 s)
def execIllegal1C (s : State) : Result := .next (raiseFatal 0x1C#8 s)
def execIllegal1F (s : State) : Result := .next (raiseFatal 0x1F#8 s)
def execIllegal22 (s : State) : Result := .next (raiseFatal 0x22#8 s)
def execIllegal23 (s : State) : Result := .next (raiseFatal 0x23#8 s)
def execIllegal27 (s : State) : Result := .next (raiseFatal 0x27#8 s)
def execIllegal2B (s : State) : Result := .next (raiseFatal 0x2B#8 s)
def execIllegal2F (s : State) : Result := .next (raiseFatal 0x2F#8 s)
def execIllegal32 (s : State) : Result := .next (raiseFatal 0x32#8 s)
def execIllegal33 (s : State) : Result := .next (raiseFatal 0x33#8 s)
def execIllegal34 (s : State) : Result := .next (raiseFatal 0x34#8 s)
def execIllegal37 (s : State) : Result := .next (raiseFatal 0x37#8 s)
def execIllegal3A (s : State) : Result := .next (raiseFatal 0x3A#8 s)
def execIllegal3B (s : State) : Result := .next (raiseFatal 0x3B#8 s)
def execIllegal3C (s : State) : Result := .next (raiseFatal 0x3C#8 s)
def execIllegal3F (s : State) : Result := .next (raiseFatal 0x3F#8 s)
def execIllegal42 (s : State) : Result := .next (raiseFatal 0x42#8 s)
def execIllegal43 (s : State) : Result := .next (raiseFatal 0x43#8 s)
def execIllegal44 (s : State) : Result := .next (raiseFatal 0x44#8 s)
def execIllegal47 (s : State) : Result := .next (raiseFatal 0x47#8 s)
def execIllegal4B (s : State) : Result := .next (raiseFatal 0x4B#8 s)
def execIllegal4F (s : State) : Result := .next (raiseFatal 0x4F#8 s)
def execIllegal52 (s : State) : Result := .next (raiseFatal 0x52#8 s)
def execIllegal53 (s : State) : Result := .next (raiseFatal 0x53#8 s)
def execIllegal54 (s : State) : Result := .next (raiseFatal 0x54#8 s)
def execIllegal57 (s : State) : Result := .next (raiseFatal 0x57#8 s)
def execIllegal5A (s : State) : Result := .next (raiseFatal 0x5A#8 s)
def execIllegal5B (s : State) : Result := .next (raiseFatal 0x5B#8 s)
def execIllegal5C (s : State) : Result := .next (raiseFatal 0x5C#8 s)
def execIllegal5F (s : State) : Result := .next (raiseFatal 0x5F#8 s)
def execIllegal62 (s : State) : Result := .next (raiseFatal 0x62#8 s)
def execIllegal63 (s : State) : Result := .next (raiseFatal 0x63#8 s)
def execIllegal64 (s : State) : Result := .next (raiseFatal 0x64#8 s)
def execIllegal67 (s : State) : Result := .next (raiseFatal 0x67#8 s)
def execIllegal6B (s : State) : Result := .next (raiseFatal 0x6B#8 s)
def execIllegal6F (s : State) : Result := .next (raiseFatal 0x6F#8 s)
def execIllegal72 (s : State) : Result := .next (raiseFatal 0x72#8 s)
def execIllegal73 (s : State) : Result := .next (raiseFatal 0x73#8 s)
def execIllegal74 (s : State) : Result := .next (raiseFatal 0x74#8 s)
def execIllegal77 (s : State) : Result := .next (raiseFatal 0x77#8 s)
def execIllegal7A (s : State) : Result := .next (raiseFatal 0x7A#8 s)
def execIllegal7B (s : State) : Result := .next (raiseFatal 0x7B#8 s)
def execIllegal7C (s : State) : Result := .next (raiseFatal 0x7C#8 s)
def execIllegal7F (s : State) : Result := .next (raiseFatal 0x7F#8 s)
def execIllegal80 (s : State) : Result := .next (raiseFatal 0x80#8 s)
def execIllegal82 (s : State) : Result := .next (raiseFatal 0x82#8 s)
def execIllegal83 (s : State) : Result := .next (raiseFatal 0x83#8 s)
def execIllegal87 (s : State) : Result := .next (raiseFatal 0x87#8 s)
def execIllegal89 (s : State) : Result := .next (raiseFatal 0x89#8 s)
def execIllegal8B (s : State) : Result := .next (raiseFatal 0x8B#8 s)
def execIllegal8F (s : State) : Result := .next (raiseFatal 0x8F#8 s)
def execIllegal92 (s : State) : Result := .next (raiseFatal 0x92#8 s)
def execIllegal93 (s : State) : Result := .next (raiseFatal 0x93#8 s)
def execIllegal97 (s : State) : Result := .next (raiseFatal 0x97#8 s)
def execIllegal9B (s : State) : Result := .next (raiseFatal 0x9B#8 s)
def execIllegal9C (s : State) : Result := .next (raiseFatal 0x9C#8 s)
def execIllegal9E (s : State) : Result := .next (raiseFatal 0x9E#8 s)
def execIllegal9F (s : State) : Result := .next (raiseFatal 0x9F#8 s)
def execIllegalA3 (s : State) : Result := .next (raiseFatal 0xA3#8 s)
def execIllegalA7 (s : State) : Result := .next (raiseFatal 0xA7#8 s)
def execIllegalAB (s : State) : Result := .next (raiseFatal 0xAB#8 s)
def execIllegalAF (s : State) : Result := .next (raiseFatal 0xAF#8 s)
def execIllegalB2 (s : State) : Result := .next (raiseFatal 0xB2#8 s)
def execIllegalB3 (s : State) : Result := .next (raiseFatal 0xB3#8 s)
def execIllegalB7 (s : State) : Result := .next (raiseFatal 0xB7#8 s)
def execIllegalBB (s : State) : Result := .next (raiseFatal 0xBB#8 s)
def execIllegalBF (s : State) : Result := .next (raiseFatal 0xBF#8 s)
def execIllegalC2 (s : State) : Result := .next (raiseFatal 0xC2#8 s)
def execIllegalC3 (s : State) : Result := .next (raiseFatal 0xC3#8 s)
def execIllegalC7 (s : State) : Result := .next (raiseFatal 0xC7#8 s)
def execIllegalCB (s : State) : Result := .next (raiseFatal 0xCB#8 s)
def execIllegalCF (s : State) : Result := .next (raiseFatal 0xCF#8 s)
def execIllegalD2 (s : State) : Result := .next (raiseFatal 0xD2#8 s)
def execIllegalD3 (s : State) : Result := .next (raiseFatal 0xD3#8 s)
def execIllegalD4 (s : State) : Result := .next (raiseFatal 0xD4#8 s)
def execIllegalD7 (s : State) : Result := .next (raiseFatal 0xD7#8 s)
def execIllegalDA (s : State) : Result := .next (raiseFatal 0xDA#8 s)
def execIllegalDB (s : State) : Result := .next (raiseFatal 0xDB#8 s)
def execIllegalDC (s : State) : Result := .next (raiseFatal 0xDC#8 s)
def execIllegalDF (s : State) : Result := .next (raiseFatal 0xDF#8 s)
def execIllegalE2 (s : State) : Result := .next (raiseFatal 0xE2#8 s)
def execIllegalE3 (s : State) : Result := .next (raiseFatal 0xE3#8 s)
def execIllegalE7 (s : State) : Result := .next (raiseFatal 0xE7#8 s)
def execIllegalEB (s : State) : Result := .next (raiseFatal 0xEB#8 s)
def execIllegalEF (s : State) : Result := .next (raiseFatal 0xEF#8 s)
def execIllegalF2 (s : State) : Result := .next (raiseFatal 0xF2#8 s)
def execIllegalF3 (s : State) : Result := .next (raiseFatal 0xF3#8 s)
def execIllegalF4 (s : State) : Result := .next (raiseFatal 0xF4#8 s)
def execIllegalF7 (s : State) : Result := .next (raiseFatal 0xF7#8 s)
def execIllegalFA (s : State) : Result := .next (raiseFatal 0xFA#8 s)
def execIllegalFB (s : State) : Result := .next (raiseFatal 0xFB#8 s)
def execIllegalFC (s : State) : Result := .next (raiseFatal 0xFC#8 s)
def execIllegalFF (s : State) : Result := .next (raiseFatal 0xFF#8 s)

end Sys2Proof.Machine
end

