-- ==== Sys2Proof/Machine/LoadStore.lean ====
section
/-! DEFINITION. Loads, stores and register transfers (41_load_store_transfer.md): what each mnemonic does
to the CPU, then one meaning per opcode. -/

namespace Sys2Proof.Machine

/-- `A <- M; setZN(M)` (R180). -/
def Cpu.lda (m : Byte) (c : Cpu) : Cpu := { c with a := m }.setZN m

/-- `X <- M; setZN(M)` (R181). -/
def Cpu.ldx (m : Byte) (c : Cpu) : Cpu := { c with x := m }.setZN m

/-- `Y <- M; setZN(M)` (R182). -/
def Cpu.ldy (m : Byte) (c : Cpu) : Cpu := { c with y := m }.setZN m

/-- `X <- A; setZN(X)` (R186). -/
def Cpu.tax (c : Cpu) : Cpu := c.ldx c.a

/-- `Y <- A; setZN(Y)` (R187). -/
def Cpu.tay (c : Cpu) : Cpu := c.ldy c.a

/-- `A <- X; setZN(A)` (R188). -/
def Cpu.txa (c : Cpu) : Cpu := c.lda c.x

/-- `A <- Y; setZN(A)` (R189). -/
def Cpu.tya (c : Cpu) : Cpu := c.lda c.y

/-- `X <- SP; setZN(X)` (R190). -/
def Cpu.tsx (c : Cpu) : Cpu := c.ldx c.sp

/-- `SP <- X`, and no flag (R191). -/
def Cpu.txs (c : Cpu) : Cpu := { c with sp := c.x }

/-- LDA, indirect-X, 0xA1 (R180). -/
def execLdaIzx (z : Byte) (s : State) : Result := .next (readOperand 0xA1#8 (eaIzx z s) Cpu.lda)

/-- LDA, zeropage, 0xA5 (R180). -/
def execLdaZp (z : Byte) (s : State) : Result := .next (readOperand 0xA5#8 (eaZp z s) Cpu.lda)

/-- LDA, immediate, 0xA9 (R180). -/
def execLdaImm (m : Byte) (s : State) : Result := .next (immediate 0xA9#8 m Cpu.lda s)

/-- LDA, absolute, 0xAD (R180). -/
def execLdaAbs (addr : Word) (s : State) : Result := .next (readOperand 0xAD#8 (eaAbs addr s) Cpu.lda)

/-- LDA, indirect-Y, 0xB1 (R180). -/
def execLdaIzy (z : Byte) (s : State) : Result := .next (readOperand 0xB1#8 (eaIzy z s) Cpu.lda)

/-- LDA, zeropage-X, 0xB5 (R180). -/
def execLdaZpx (z : Byte) (s : State) : Result := .next (readOperand 0xB5#8 (eaZpx z s) Cpu.lda)

/-- LDA, absolute-Y, 0xB9 (R180). -/
def execLdaAby (addr : Word) (s : State) : Result := .next (readOperand 0xB9#8 (eaAby addr s) Cpu.lda)

/-- LDA, absolute-X, 0xBD (R180). -/
def execLdaAbx (addr : Word) (s : State) : Result := .next (readOperand 0xBD#8 (eaAbx addr s) Cpu.lda)

/-- LDX, immediate, 0xA2 (R181). -/
def execLdxImm (m : Byte) (s : State) : Result := .next (immediate 0xA2#8 m Cpu.ldx s)

/-- LDX, zeropage, 0xA6 (R181). -/
def execLdxZp (z : Byte) (s : State) : Result := .next (readOperand 0xA6#8 (eaZp z s) Cpu.ldx)

/-- LDX, absolute, 0xAE (R181). -/
def execLdxAbs (addr : Word) (s : State) : Result := .next (readOperand 0xAE#8 (eaAbs addr s) Cpu.ldx)

/-- LDX, zeropage-Y, 0xB6 (R181). -/
def execLdxZpy (z : Byte) (s : State) : Result := .next (readOperand 0xB6#8 (eaZpy z s) Cpu.ldx)

/-- LDX, absolute-Y, 0xBE (R181). -/
def execLdxAby (addr : Word) (s : State) : Result := .next (readOperand 0xBE#8 (eaAby addr s) Cpu.ldx)

/-- LDY, immediate, 0xA0 (R182). -/
def execLdyImm (m : Byte) (s : State) : Result := .next (immediate 0xA0#8 m Cpu.ldy s)

/-- LDY, zeropage, 0xA4 (R182). -/
def execLdyZp (z : Byte) (s : State) : Result := .next (readOperand 0xA4#8 (eaZp z s) Cpu.ldy)

/-- LDY, absolute, 0xAC (R182). -/
def execLdyAbs (addr : Word) (s : State) : Result := .next (readOperand 0xAC#8 (eaAbs addr s) Cpu.ldy)

/-- LDY, zeropage-X, 0xB4 (R182). -/
def execLdyZpx (z : Byte) (s : State) : Result := .next (readOperand 0xB4#8 (eaZpx z s) Cpu.ldy)

/-- LDY, absolute-X, 0xBC (R182). -/
def execLdyAbx (addr : Word) (s : State) : Result := .next (readOperand 0xBC#8 (eaAbx addr s) Cpu.ldy)

/-- STA, indirect-X, 0x81 (R183). -/
def execStaIzx (z : Byte) (s : State) : Result := .next (storeOperand 0x81#8 (eaIzx z s) Cpu.a)

/-- STA, zeropage, 0x85 (R183). -/
def execStaZp (z : Byte) (s : State) : Result := .next (storeOperand 0x85#8 (eaZp z s) Cpu.a)

/-- STA, absolute, 0x8D (R183). -/
def execStaAbs (addr : Word) (s : State) : Result := .next (storeOperand 0x8D#8 (eaAbs addr s) Cpu.a)

/-- STA, indirect-Y, 0x91 (R183). -/
def execStaIzy (z : Byte) (s : State) : Result := .next (storeOperand 0x91#8 (eaIzy z s) Cpu.a)

/-- STA, zeropage-X, 0x95 (R183). -/
def execStaZpx (z : Byte) (s : State) : Result := .next (storeOperand 0x95#8 (eaZpx z s) Cpu.a)

/-- STA, absolute-Y, 0x99 (R183). -/
def execStaAby (addr : Word) (s : State) : Result := .next (storeOperand 0x99#8 (eaAby addr s) Cpu.a)

/-- STA, absolute-X, 0x9D (R183). -/
def execStaAbx (addr : Word) (s : State) : Result := .next (storeOperand 0x9D#8 (eaAbx addr s) Cpu.a)

/-- STX, zeropage, 0x86 (R184). -/
def execStxZp (z : Byte) (s : State) : Result := .next (storeOperand 0x86#8 (eaZp z s) Cpu.x)

/-- STX, absolute, 0x8E (R184). -/
def execStxAbs (addr : Word) (s : State) : Result := .next (storeOperand 0x8E#8 (eaAbs addr s) Cpu.x)

/-- STX, zeropage-Y, 0x96 (R184). -/
def execStxZpy (z : Byte) (s : State) : Result := .next (storeOperand 0x96#8 (eaZpy z s) Cpu.x)

/-- STY, zeropage, 0x84 (R185). -/
def execStyZp (z : Byte) (s : State) : Result := .next (storeOperand 0x84#8 (eaZp z s) Cpu.y)

/-- STY, absolute, 0x8C (R185). -/
def execStyAbs (addr : Word) (s : State) : Result := .next (storeOperand 0x8C#8 (eaAbs addr s) Cpu.y)

/-- STY, zeropage-X, 0x94 (R185). -/
def execStyZpx (z : Byte) (s : State) : Result := .next (storeOperand 0x94#8 (eaZpx z s) Cpu.y)

/-- TAX, 0xAA (R186). -/
def execTax (s : State) : Result := .next (inherent 0xAA#8 Cpu.tax s)

/-- TAY, 0xA8 (R187). -/
def execTay (s : State) : Result := .next (inherent 0xA8#8 Cpu.tay s)

/-- TXA, 0x8A (R188). -/
def execTxa (s : State) : Result := .next (inherent 0x8A#8 Cpu.txa s)

/-- TYA, 0x98 (R189). -/
def execTya (s : State) : Result := .next (inherent 0x98#8 Cpu.tya s)

/-- TSX, 0xBA (R190). -/
def execTsx (s : State) : Result := .next (inherent 0xBA#8 Cpu.tsx s)

/-- TXS, 0x9A (R191). -/
def execTxs (s : State) : Result := .next (inherent 0x9A#8 Cpu.txs s)

end Sys2Proof.Machine
end

