-- ==== Sys2Proof/Machine/Shift.lean ====
section
/-! DEFINITION. Shifts and rotates by one bit (43_shift_rotate.md): the result byte and the CPU with C, Z
and N written, then one meaning per opcode. The carry is read before it is written. -/

namespace Sys2Proof.Machine

/-- A shift's flags: C the bit shifted out, Z and N of the result. -/
def Cpu.shifted (out : Bool) (r : Byte) (c : Cpu) : Byte × Cpu := (r, (c.setC out).setZN r)

/-- `r <- (src << 1) mod 256; P.C <- src[7]` (R230). -/
def Cpu.asl (v : Byte) (c : Cpu) : Byte × Cpu := c.shifted (v.getLsbD 7) (v <<< 1)

/-- `r <- src >> 1; P.C <- src[0]` (R231). -/
def Cpu.lsr (v : Byte) (c : Cpu) : Byte × Cpu := c.shifted (v.getLsbD 0) (v >>> 1)

/-- `r <- ((src << 1) | P.C) mod 256; P.C <- src[7]` (R232). -/
def Cpu.rol (v : Byte) (c : Cpu) : Byte × Cpu := c.shifted (v.getLsbD 7) ((v <<< 1) ||| bitByte c.flagC)

/-- `r <- (src >> 1) | (P.C << 7); P.C <- src[0]` (R233). -/
def Cpu.ror (v : Byte) (c : Cpu) : Byte × Cpu := c.shifted (v.getLsbD 0) ((v >>> 1) ||| (bitByte c.flagC <<< 7))

/-- ASL, zeropage, 0x06 (R230). -/
def execAslZp (z : Byte) (s : State) : Result := .next (modifyOperand 0x06#8 (eaZp z s) Cpu.asl)

/-- ASL, accumulator, 0x0A (R230). -/
def execAslAcc (s : State) : Result := .next (modifyAccumulator 0x0A#8 Cpu.asl s)

/-- ASL, absolute, 0x0E (R230). -/
def execAslAbs (addr : Word) (s : State) : Result := .next (modifyOperand 0x0E#8 (eaAbs addr s) Cpu.asl)

/-- ASL, zeropage-X, 0x16 (R230). -/
def execAslZpx (z : Byte) (s : State) : Result := .next (modifyOperand 0x16#8 (eaZpx z s) Cpu.asl)

/-- ASL, absolute-X, 0x1E (R230). -/
def execAslAbx (addr : Word) (s : State) : Result := .next (modifyOperand 0x1E#8 (eaAbx addr s) Cpu.asl)

/-- LSR, zeropage, 0x46 (R231). -/
def execLsrZp (z : Byte) (s : State) : Result := .next (modifyOperand 0x46#8 (eaZp z s) Cpu.lsr)

/-- LSR, accumulator, 0x4A (R231). -/
def execLsrAcc (s : State) : Result := .next (modifyAccumulator 0x4A#8 Cpu.lsr s)

/-- LSR, absolute, 0x4E (R231). -/
def execLsrAbs (addr : Word) (s : State) : Result := .next (modifyOperand 0x4E#8 (eaAbs addr s) Cpu.lsr)

/-- LSR, zeropage-X, 0x56 (R231). -/
def execLsrZpx (z : Byte) (s : State) : Result := .next (modifyOperand 0x56#8 (eaZpx z s) Cpu.lsr)

/-- LSR, absolute-X, 0x5E (R231). -/
def execLsrAbx (addr : Word) (s : State) : Result := .next (modifyOperand 0x5E#8 (eaAbx addr s) Cpu.lsr)

/-- ROL, zeropage, 0x26 (R232). -/
def execRolZp (z : Byte) (s : State) : Result := .next (modifyOperand 0x26#8 (eaZp z s) Cpu.rol)

/-- ROL, accumulator, 0x2A (R232). -/
def execRolAcc (s : State) : Result := .next (modifyAccumulator 0x2A#8 Cpu.rol s)

/-- ROL, absolute, 0x2E (R232). -/
def execRolAbs (addr : Word) (s : State) : Result := .next (modifyOperand 0x2E#8 (eaAbs addr s) Cpu.rol)

/-- ROL, zeropage-X, 0x36 (R232). -/
def execRolZpx (z : Byte) (s : State) : Result := .next (modifyOperand 0x36#8 (eaZpx z s) Cpu.rol)

/-- ROL, absolute-X, 0x3E (R232). -/
def execRolAbx (addr : Word) (s : State) : Result := .next (modifyOperand 0x3E#8 (eaAbx addr s) Cpu.rol)

/-- ROR, zeropage, 0x66 (R233). -/
def execRorZp (z : Byte) (s : State) : Result := .next (modifyOperand 0x66#8 (eaZp z s) Cpu.ror)

/-- ROR, accumulator, 0x6A (R233). -/
def execRorAcc (s : State) : Result := .next (modifyAccumulator 0x6A#8 Cpu.ror s)

/-- ROR, absolute, 0x6E (R233). -/
def execRorAbs (addr : Word) (s : State) : Result := .next (modifyOperand 0x6E#8 (eaAbs addr s) Cpu.ror)

/-- ROR, zeropage-X, 0x76 (R233). -/
def execRorZpx (z : Byte) (s : State) : Result := .next (modifyOperand 0x76#8 (eaZpx z s) Cpu.ror)

/-- ROR, absolute-X, 0x7E (R233). -/
def execRorAbx (addr : Word) (s : State) : Result := .next (modifyOperand 0x7E#8 (eaAbx addr s) Cpu.ror)

end Sys2Proof.Machine
end

