-- ==== Sys2Proof/Machine/System.lean ====
section
/-! DEFINITION. Stack, flag and system instructions (45_stack_flag_system.md), one meaning per opcode. -/

namespace Sys2Proof.Machine

/-- `P <- (v & 0xEF) | 0x20`, the status pull (R263). -/
def Cpu.pullP (v : Byte) (c : Cpu) : Cpu := { c with p := pulledStatus v }

/-- PHA, 0x48 (R260). -/
def execPha (s : State) : Result :=
  .next (retire 0x48#8 false (push s.cpu.a s))

/-- PLA, 0x68 (R261). -/
def execPla (s : State) : Result :=
  let v := pull s
  .next (retire 0x68#8 false (v.2.mapCpu (Cpu.lda v.1)))

/-- PHP, 0x08 (R262). -/
def execPhp (s : State) : Result :=
  .next (retire 0x08#8 false (push (pushedStatus s.cpu.p) s))

/-- PLP, 0x28 (R263). -/
def execPlp (s : State) : Result :=
  let v := pull s
  .next (retire 0x28#8 false (v.2.mapCpu (Cpu.pullP v.1)))

/-- CLC, 0x18 (R264). -/
def execClc (s : State) : Result := .next (inherent 0x18#8 (Cpu.setC false) s)

/-- SEC, 0x38 (R265). -/
def execSec (s : State) : Result := .next (inherent 0x38#8 (Cpu.setC true) s)

/-- CLI, 0x58 (R266). -/
def execCli (s : State) : Result := .next (inherent 0x58#8 (Cpu.setI false) s)

/-- SEI, 0x78 (R267). -/
def execSei (s : State) : Result := .next (inherent 0x78#8 (Cpu.setI true) s)

/-- CLD, 0xD8 (R268). -/
def execCld (s : State) : Result := .next (inherent 0xD8#8 (Cpu.setD false) s)

/-- SED, 0xF8 (R269). -/
def execSed (s : State) : Result := .next (inherent 0xF8#8 (Cpu.setD true) s)

/-- CLV, 0xB8 (R270). -/
def execClv (s : State) : Result := .next (inherent 0xB8#8 (Cpu.setV false) s)

/-- NOP, 0xEA (R271). -/
def execNop (s : State) : Result := .next (inherent 0xEA#8 id s)

/-- BRK, 0x00 (R272). -/
def execBrk (s : State) : Result :=
  .next (retireAt 0x00#8 (enterVector (s.cpu.pc + 2#16) config.vecIrq s))

/-- RTI, 0x40 (R273). -/
def execRti (s : State) : Result :=
  .next (retireAt 0x40#8 (returnFromInterrupt s))

end Sys2Proof.Machine
end

