-- ==== Sys2Proof/Machine/Dispatch.lean ====
section
/-! DEFINITION. One arm per constructor of Instr, each one direct call of its meaning. -/

namespace Sys2Proof.Machine

def exec (i : Instr) (s : State) : Host.Outcome State Fault Refusal :=
  match i with
  -- Machine/LoadStore.lean
  | .ldaIzx z => Sys2Proof.Machine.execLdaIzx z s
  | .ldaZp z => Sys2Proof.Machine.execLdaZp z s
  | .ldaImm m => Sys2Proof.Machine.execLdaImm m s
  | .ldaAbs addr => Sys2Proof.Machine.execLdaAbs addr s
  | .ldaIzy z => Sys2Proof.Machine.execLdaIzy z s
  | .ldaZpx z => Sys2Proof.Machine.execLdaZpx z s
  | .ldaAby addr => Sys2Proof.Machine.execLdaAby addr s
  | .ldaAbx addr => Sys2Proof.Machine.execLdaAbx addr s
  | .ldxImm m => Sys2Proof.Machine.execLdxImm m s
  | .ldxZp z => Sys2Proof.Machine.execLdxZp z s
  | .ldxAbs addr => Sys2Proof.Machine.execLdxAbs addr s
  | .ldxZpy z => Sys2Proof.Machine.execLdxZpy z s
  | .ldxAby addr => Sys2Proof.Machine.execLdxAby addr s
  | .ldyImm m => Sys2Proof.Machine.execLdyImm m s
  | .ldyZp z => Sys2Proof.Machine.execLdyZp z s
  | .ldyAbs addr => Sys2Proof.Machine.execLdyAbs addr s
  | .ldyZpx z => Sys2Proof.Machine.execLdyZpx z s
  | .ldyAbx addr => Sys2Proof.Machine.execLdyAbx addr s
  | .staIzx z => Sys2Proof.Machine.execStaIzx z s
  | .staZp z => Sys2Proof.Machine.execStaZp z s
  | .staAbs addr => Sys2Proof.Machine.execStaAbs addr s
  | .staIzy z => Sys2Proof.Machine.execStaIzy z s
  | .staZpx z => Sys2Proof.Machine.execStaZpx z s
  | .staAby addr => Sys2Proof.Machine.execStaAby addr s
  | .staAbx addr => Sys2Proof.Machine.execStaAbx addr s
  | .stxZp z => Sys2Proof.Machine.execStxZp z s
  | .stxAbs addr => Sys2Proof.Machine.execStxAbs addr s
  | .stxZpy z => Sys2Proof.Machine.execStxZpy z s
  | .styZp z => Sys2Proof.Machine.execStyZp z s
  | .styAbs addr => Sys2Proof.Machine.execStyAbs addr s
  | .styZpx z => Sys2Proof.Machine.execStyZpx z s
  | .tax => Sys2Proof.Machine.execTax s
  | .tay => Sys2Proof.Machine.execTay s
  | .txa => Sys2Proof.Machine.execTxa s
  | .tya => Sys2Proof.Machine.execTya s
  | .tsx => Sys2Proof.Machine.execTsx s
  | .txs => Sys2Proof.Machine.execTxs s
  -- Machine/Arithmetic.lean
  | .adcIzx z => Sys2Proof.Machine.execAdcIzx z s
  | .adcZp z => Sys2Proof.Machine.execAdcZp z s
  | .adcImm m => Sys2Proof.Machine.execAdcImm m s
  | .adcAbs addr => Sys2Proof.Machine.execAdcAbs addr s
  | .adcIzy z => Sys2Proof.Machine.execAdcIzy z s
  | .adcZpx z => Sys2Proof.Machine.execAdcZpx z s
  | .adcAby addr => Sys2Proof.Machine.execAdcAby addr s
  | .adcAbx addr => Sys2Proof.Machine.execAdcAbx addr s
  | .sbcIzx z => Sys2Proof.Machine.execSbcIzx z s
  | .sbcZp z => Sys2Proof.Machine.execSbcZp z s
  | .sbcImm m => Sys2Proof.Machine.execSbcImm m s
  | .sbcAbs addr => Sys2Proof.Machine.execSbcAbs addr s
  | .sbcIzy z => Sys2Proof.Machine.execSbcIzy z s
  | .sbcZpx z => Sys2Proof.Machine.execSbcZpx z s
  | .sbcAby addr => Sys2Proof.Machine.execSbcAby addr s
  | .sbcAbx addr => Sys2Proof.Machine.execSbcAbx addr s
  | .andIzx z => Sys2Proof.Machine.execAndIzx z s
  | .andZp z => Sys2Proof.Machine.execAndZp z s
  | .andImm m => Sys2Proof.Machine.execAndImm m s
  | .andAbs addr => Sys2Proof.Machine.execAndAbs addr s
  | .andIzy z => Sys2Proof.Machine.execAndIzy z s
  | .andZpx z => Sys2Proof.Machine.execAndZpx z s
  | .andAby addr => Sys2Proof.Machine.execAndAby addr s
  | .andAbx addr => Sys2Proof.Machine.execAndAbx addr s
  | .oraIzx z => Sys2Proof.Machine.execOraIzx z s
  | .oraZp z => Sys2Proof.Machine.execOraZp z s
  | .oraImm m => Sys2Proof.Machine.execOraImm m s
  | .oraAbs addr => Sys2Proof.Machine.execOraAbs addr s
  | .oraIzy z => Sys2Proof.Machine.execOraIzy z s
  | .oraZpx z => Sys2Proof.Machine.execOraZpx z s
  | .oraAby addr => Sys2Proof.Machine.execOraAby addr s
  | .oraAbx addr => Sys2Proof.Machine.execOraAbx addr s
  | .eorIzx z => Sys2Proof.Machine.execEorIzx z s
  | .eorZp z => Sys2Proof.Machine.execEorZp z s
  | .eorImm m => Sys2Proof.Machine.execEorImm m s
  | .eorAbs addr => Sys2Proof.Machine.execEorAbs addr s
  | .eorIzy z => Sys2Proof.Machine.execEorIzy z s
  | .eorZpx z => Sys2Proof.Machine.execEorZpx z s
  | .eorAby addr => Sys2Proof.Machine.execEorAby addr s
  | .eorAbx addr => Sys2Proof.Machine.execEorAbx addr s
  | .cmpIzx z => Sys2Proof.Machine.execCmpIzx z s
  | .cmpZp z => Sys2Proof.Machine.execCmpZp z s
  | .cmpImm m => Sys2Proof.Machine.execCmpImm m s
  | .cmpAbs addr => Sys2Proof.Machine.execCmpAbs addr s
  | .cmpIzy z => Sys2Proof.Machine.execCmpIzy z s
  | .cmpZpx z => Sys2Proof.Machine.execCmpZpx z s
  | .cmpAby addr => Sys2Proof.Machine.execCmpAby addr s
  | .cmpAbx addr => Sys2Proof.Machine.execCmpAbx addr s
  | .cpxImm m => Sys2Proof.Machine.execCpxImm m s
  | .cpxZp z => Sys2Proof.Machine.execCpxZp z s
  | .cpxAbs addr => Sys2Proof.Machine.execCpxAbs addr s
  | .cpyImm m => Sys2Proof.Machine.execCpyImm m s
  | .cpyZp z => Sys2Proof.Machine.execCpyZp z s
  | .cpyAbs addr => Sys2Proof.Machine.execCpyAbs addr s
  | .bitZp z => Sys2Proof.Machine.execBitZp z s
  | .bitAbs addr => Sys2Proof.Machine.execBitAbs addr s
  | .incZp z => Sys2Proof.Machine.execIncZp z s
  | .incAbs addr => Sys2Proof.Machine.execIncAbs addr s
  | .incZpx z => Sys2Proof.Machine.execIncZpx z s
  | .incAbx addr => Sys2Proof.Machine.execIncAbx addr s
  | .decZp z => Sys2Proof.Machine.execDecZp z s
  | .decAbs addr => Sys2Proof.Machine.execDecAbs addr s
  | .decZpx z => Sys2Proof.Machine.execDecZpx z s
  | .decAbx addr => Sys2Proof.Machine.execDecAbx addr s
  | .inx => Sys2Proof.Machine.execInx s
  | .iny => Sys2Proof.Machine.execIny s
  | .dex => Sys2Proof.Machine.execDex s
  | .dey => Sys2Proof.Machine.execDey s
  -- Machine/Shift.lean
  | .aslZp z => Sys2Proof.Machine.execAslZp z s
  | .aslAcc => Sys2Proof.Machine.execAslAcc s
  | .aslAbs addr => Sys2Proof.Machine.execAslAbs addr s
  | .aslZpx z => Sys2Proof.Machine.execAslZpx z s
  | .aslAbx addr => Sys2Proof.Machine.execAslAbx addr s
  | .lsrZp z => Sys2Proof.Machine.execLsrZp z s
  | .lsrAcc => Sys2Proof.Machine.execLsrAcc s
  | .lsrAbs addr => Sys2Proof.Machine.execLsrAbs addr s
  | .lsrZpx z => Sys2Proof.Machine.execLsrZpx z s
  | .lsrAbx addr => Sys2Proof.Machine.execLsrAbx addr s
  | .rolZp z => Sys2Proof.Machine.execRolZp z s
  | .rolAcc => Sys2Proof.Machine.execRolAcc s
  | .rolAbs addr => Sys2Proof.Machine.execRolAbs addr s
  | .rolZpx z => Sys2Proof.Machine.execRolZpx z s
  | .rolAbx addr => Sys2Proof.Machine.execRolAbx addr s
  | .rorZp z => Sys2Proof.Machine.execRorZp z s
  | .rorAcc => Sys2Proof.Machine.execRorAcc s
  | .rorAbs addr => Sys2Proof.Machine.execRorAbs addr s
  | .rorZpx z => Sys2Proof.Machine.execRorZpx z s
  | .rorAbx addr => Sys2Proof.Machine.execRorAbx addr s
  -- Machine/Control.lean
  | .bcc off => Sys2Proof.Machine.execBcc off s
  | .bcs off => Sys2Proof.Machine.execBcs off s
  | .beq off => Sys2Proof.Machine.execBeq off s
  | .bne off => Sys2Proof.Machine.execBne off s
  | .bmi off => Sys2Proof.Machine.execBmi off s
  | .bpl off => Sys2Proof.Machine.execBpl off s
  | .bvc off => Sys2Proof.Machine.execBvc off s
  | .bvs off => Sys2Proof.Machine.execBvs off s
  | .jmpAbs addr => Sys2Proof.Machine.execJmpAbs addr s
  | .jmpInd addr => Sys2Proof.Machine.execJmpInd addr s
  | .jsrAbs addr => Sys2Proof.Machine.execJsrAbs addr s
  | .rts => Sys2Proof.Machine.execRts s
  -- Machine/System.lean
  | .pha => Sys2Proof.Machine.execPha s
  | .pla => Sys2Proof.Machine.execPla s
  | .php => Sys2Proof.Machine.execPhp s
  | .plp => Sys2Proof.Machine.execPlp s
  | .clc => Sys2Proof.Machine.execClc s
  | .sec => Sys2Proof.Machine.execSec s
  | .cli => Sys2Proof.Machine.execCli s
  | .sei => Sys2Proof.Machine.execSei s
  | .cld => Sys2Proof.Machine.execCld s
  | .sed => Sys2Proof.Machine.execSed s
  | .clv => Sys2Proof.Machine.execClv s
  | .nop => Sys2Proof.Machine.execNop s
  | .brk => Sys2Proof.Machine.execBrk s
  | .rti => Sys2Proof.Machine.execRti s
  -- Machine/Gap.lean
  | .illegal02 => Sys2Proof.Machine.execIllegal02 s
  | .illegal03 => Sys2Proof.Machine.execIllegal03 s
  | .illegal04 => Sys2Proof.Machine.execIllegal04 s
  | .illegal07 => Sys2Proof.Machine.execIllegal07 s
  | .illegal0B => Sys2Proof.Machine.execIllegal0B s
  | .illegal0C => Sys2Proof.Machine.execIllegal0C s
  | .illegal0F => Sys2Proof.Machine.execIllegal0F s
  | .illegal12 => Sys2Proof.Machine.execIllegal12 s
  | .illegal13 => Sys2Proof.Machine.execIllegal13 s
  | .illegal14 => Sys2Proof.Machine.execIllegal14 s
  | .illegal17 => Sys2Proof.Machine.execIllegal17 s
  | .illegal1A => Sys2Proof.Machine.execIllegal1A s
  | .illegal1B => Sys2Proof.Machine.execIllegal1B s
  | .illegal1C => Sys2Proof.Machine.execIllegal1C s
  | .illegal1F => Sys2Proof.Machine.execIllegal1F s
  | .illegal22 => Sys2Proof.Machine.execIllegal22 s
  | .illegal23 => Sys2Proof.Machine.execIllegal23 s
  | .illegal27 => Sys2Proof.Machine.execIllegal27 s
  | .illegal2B => Sys2Proof.Machine.execIllegal2B s
  | .illegal2F => Sys2Proof.Machine.execIllegal2F s
  | .illegal32 => Sys2Proof.Machine.execIllegal32 s
  | .illegal33 => Sys2Proof.Machine.execIllegal33 s
  | .illegal34 => Sys2Proof.Machine.execIllegal34 s
  | .illegal37 => Sys2Proof.Machine.execIllegal37 s
  | .illegal3A => Sys2Proof.Machine.execIllegal3A s
  | .illegal3B => Sys2Proof.Machine.execIllegal3B s
  | .illegal3C => Sys2Proof.Machine.execIllegal3C s
  | .illegal3F => Sys2Proof.Machine.execIllegal3F s
  | .illegal42 => Sys2Proof.Machine.execIllegal42 s
  | .illegal43 => Sys2Proof.Machine.execIllegal43 s
  | .illegal44 => Sys2Proof.Machine.execIllegal44 s
  | .illegal47 => Sys2Proof.Machine.execIllegal47 s
  | .illegal4B => Sys2Proof.Machine.execIllegal4B s
  | .illegal4F => Sys2Proof.Machine.execIllegal4F s
  | .illegal52 => Sys2Proof.Machine.execIllegal52 s
  | .illegal53 => Sys2Proof.Machine.execIllegal53 s
  | .illegal54 => Sys2Proof.Machine.execIllegal54 s
  | .illegal57 => Sys2Proof.Machine.execIllegal57 s
  | .illegal5A => Sys2Proof.Machine.execIllegal5A s
  | .illegal5B => Sys2Proof.Machine.execIllegal5B s
  | .illegal5C => Sys2Proof.Machine.execIllegal5C s
  | .illegal5F => Sys2Proof.Machine.execIllegal5F s
  | .illegal62 => Sys2Proof.Machine.execIllegal62 s
  | .illegal63 => Sys2Proof.Machine.execIllegal63 s
  | .illegal64 => Sys2Proof.Machine.execIllegal64 s
  | .illegal67 => Sys2Proof.Machine.execIllegal67 s
  | .illegal6B => Sys2Proof.Machine.execIllegal6B s
  | .illegal6F => Sys2Proof.Machine.execIllegal6F s
  | .illegal72 => Sys2Proof.Machine.execIllegal72 s
  | .illegal73 => Sys2Proof.Machine.execIllegal73 s
  | .illegal74 => Sys2Proof.Machine.execIllegal74 s
  | .illegal77 => Sys2Proof.Machine.execIllegal77 s
  | .illegal7A => Sys2Proof.Machine.execIllegal7A s
  | .illegal7B => Sys2Proof.Machine.execIllegal7B s
  | .illegal7C => Sys2Proof.Machine.execIllegal7C s
  | .illegal7F => Sys2Proof.Machine.execIllegal7F s
  | .illegal80 => Sys2Proof.Machine.execIllegal80 s
  | .illegal82 => Sys2Proof.Machine.execIllegal82 s
  | .illegal83 => Sys2Proof.Machine.execIllegal83 s
  | .illegal87 => Sys2Proof.Machine.execIllegal87 s
  | .illegal89 => Sys2Proof.Machine.execIllegal89 s
  | .illegal8B => Sys2Proof.Machine.execIllegal8B s
  | .illegal8F => Sys2Proof.Machine.execIllegal8F s
  | .illegal92 => Sys2Proof.Machine.execIllegal92 s
  | .illegal93 => Sys2Proof.Machine.execIllegal93 s
  | .illegal97 => Sys2Proof.Machine.execIllegal97 s
  | .illegal9B => Sys2Proof.Machine.execIllegal9B s
  | .illegal9C => Sys2Proof.Machine.execIllegal9C s
  | .illegal9E => Sys2Proof.Machine.execIllegal9E s
  | .illegal9F => Sys2Proof.Machine.execIllegal9F s
  | .illegalA3 => Sys2Proof.Machine.execIllegalA3 s
  | .illegalA7 => Sys2Proof.Machine.execIllegalA7 s
  | .illegalAB => Sys2Proof.Machine.execIllegalAB s
  | .illegalAF => Sys2Proof.Machine.execIllegalAF s
  | .illegalB2 => Sys2Proof.Machine.execIllegalB2 s
  | .illegalB3 => Sys2Proof.Machine.execIllegalB3 s
  | .illegalB7 => Sys2Proof.Machine.execIllegalB7 s
  | .illegalBB => Sys2Proof.Machine.execIllegalBB s
  | .illegalBF => Sys2Proof.Machine.execIllegalBF s
  | .illegalC2 => Sys2Proof.Machine.execIllegalC2 s
  | .illegalC3 => Sys2Proof.Machine.execIllegalC3 s
  | .illegalC7 => Sys2Proof.Machine.execIllegalC7 s
  | .illegalCB => Sys2Proof.Machine.execIllegalCB s
  | .illegalCF => Sys2Proof.Machine.execIllegalCF s
  | .illegalD2 => Sys2Proof.Machine.execIllegalD2 s
  | .illegalD3 => Sys2Proof.Machine.execIllegalD3 s
  | .illegalD4 => Sys2Proof.Machine.execIllegalD4 s
  | .illegalD7 => Sys2Proof.Machine.execIllegalD7 s
  | .illegalDA => Sys2Proof.Machine.execIllegalDA s
  | .illegalDB => Sys2Proof.Machine.execIllegalDB s
  | .illegalDC => Sys2Proof.Machine.execIllegalDC s
  | .illegalDF => Sys2Proof.Machine.execIllegalDF s
  | .illegalE2 => Sys2Proof.Machine.execIllegalE2 s
  | .illegalE3 => Sys2Proof.Machine.execIllegalE3 s
  | .illegalE7 => Sys2Proof.Machine.execIllegalE7 s
  | .illegalEB => Sys2Proof.Machine.execIllegalEB s
  | .illegalEF => Sys2Proof.Machine.execIllegalEF s
  | .illegalF2 => Sys2Proof.Machine.execIllegalF2 s
  | .illegalF3 => Sys2Proof.Machine.execIllegalF3 s
  | .illegalF4 => Sys2Proof.Machine.execIllegalF4 s
  | .illegalF7 => Sys2Proof.Machine.execIllegalF7 s
  | .illegalFA => Sys2Proof.Machine.execIllegalFA s
  | .illegalFB => Sys2Proof.Machine.execIllegalFB s
  | .illegalFC => Sys2Proof.Machine.execIllegalFC s
  | .illegalFF => Sys2Proof.Machine.execIllegalFF s

end Sys2Proof.Machine
end

