-- ==== Sys2Proof/Machine/Fetch.lean ====
section
/-! DEFINITION. Fetching an instruction: the opcode and the operand bytes of its format, each through `MemRead`, in ascending
address order (20_memory.md R72, R96; 40_addressing_and_helpers.md R155), and the placing of an instruction's bytes where
the next fetch finds them. -/

namespace Sys2Proof.Machine

/-- The byte at `PC + k`, fetched (R72). -/
def fetchByte (k : Word) (s : State) : Byte × State := memRead (s.cpu.pc + k) s

/-- The instruction at `PC`, and the state its fetch leaves: the opcode, then as many operand bytes as its format has. An
operand byte the format does not have is not read (R112, R155). -/
def fetch (s : State) : Instr × State :=
  let op := fetchByte 0#16 s
  match operandBytes op.1 with
  | 0 => (assemble op.1 0x00#8 0x00#8, op.2)
  | 1 =>
    let b1 := fetchByte 1#16 op.2
    (assemble op.1 b1.1 0x00#8, b1.2)
  | _ =>
    let b1 := fetchByte 1#16 op.2
    let b2 := fetchByte 2#16 b1.2
    (assemble op.1 b1.1 b2.1, b2.2)

/-- An address where a CPU read runs a hook (R341). -/
def liveRead (a : Word) : Bool := a == 0x2002#16 || a == 0x2007#16 || a == 0x4016#16

/-- The three bytes from `PC` on, without side effect, as the trace samples them (R426, D26). -/
def bytesAtPC (s : State) : List Byte :=
  [s.peek s.cpu.pc, s.peek (s.cpu.pc + 1#16), s.peek (s.cpu.pc + 2#16)]

/-- `s` with the given bytes stored from `PC` on, with no hook. -/
def placeAtPC : List Byte → Word → State → State
  | [], _, s => s
  | b :: rest, k, s => placeAtPC rest (k + 1#16) (s.poke (s.cpu.pc + k) b)

/-- `s` with no event that would come before the next fetch: `HALT` and `IQ` clear, and no host event in the batch that
precedes the next step (R167: a step fetches only when `HALT = 0` and `IQ` is empty). -/
def readyToFetch (s : State) : State :=
  { s with
    cpu := { s.cpu with halt := false, iq := [] }
    inbox := match s.inbox with
      | [] => []
      | _ :: rest => [] :: rest }

end Sys2Proof.Machine
end

