-- ==== Sys2Proof/Machine/HostInput.lean ====
section
/-! DEFINITION. What the host does to the block (47_bus_sync_input.md R360): button events (R352), the IRQ request
(60_exceptions.md R407), and the images of the loader (70_reset_and_hazards.md R455). -/

namespace Sys2Proof.Machine

/-- `irq_request()`: dropped while `P.I` is 1, else appended to `IQ` (R407, D12). -/
def irqRequest (s : State) : State := if s.cpu.flagI then s else raiseInterrupt .irq s

/-- One host event (R352, R407). -/
def deliver (e : HostEvent) (s : State) : State :=
  match e with
  | .keydown b => s.mapPad (Pad.keydown b)
  | .keyup b => s.mapPad (Pad.keyup b)
  | .irqRequest => irqRequest s

/-- Host events in the order they arrive. -/
def deliverAll : List HostEvent → State → State
  | [], s => s
  | e :: rest, s => deliverAll rest (deliver e s)

/-- The events that fall before the next system step, all of them, and no later one (R357). -/
def deliverInbox (s : State) : State :=
  match s.inbox with
  | [] => s
  | now :: later => deliverAll now { s with inbox := later }

/-- The array the loader leaves: `image` repeated from `base` on for `size` bytes, in canonical form (R82, R455). -/
def loadImage (base size : Nat) (image : List Byte) : Memory :=
  (List.range size).filterMap fun i =>
    let b := image.getD (i % image.length) Memory.unlisted
    if b = Memory.unlisted then none else some (base + i, b)

/-- `MEM[0x8000 + i] <- PRG[i mod prgSize]` for `i` in 0 to 32767 (R455). -/
def loadPrg (prg : List Byte) : Memory := loadImage 0x8000 32768 prg

/-- `VRAM[i] <- CHR[i mod chrSize]` for `i` in 0 to 8191, skipped when `chrSize = 0` (R455, D23). -/
def loadChr (chr : List Byte) : Memory := if chr = [] then [] else loadImage 0x0000 8192 chr

/-- Power-on from the images (R450): the machine, or none where the images are not ones the loader formula of R455 is for
(R404 b: an invalid cartridge creates no machine). -/
def powerOnImages (prg chr : List Byte) : Option State :=
  if 0 < prg.length ∧ prg.length ≤ 32768 ∧ chr.length ≤ 8192 then
    some (State.powerOn (loadPrg prg) (loadChr chr))
  else none

end Sys2Proof.Machine
end

