-- ==== Sys2Proof/WellFormed.lean ====
section
/-! DEFINITION. The one check a term of `Instr` can fail. Every operand value of every legal opcode is legal (60_exceptions.md
R400) and the operand types hold exactly the encodable values (30_encoding.md R113), so a term is ill-formed only by its
opcode: a gap (R121), which the machine fetches and stops on. -/

namespace Sys2Proof

/-- The opcode byte has a rule (R122: "An opcode is either one of the 151 with a rule, or fatal"): the parameter
`LEGAL_OPCODES` (D2). -/
def isLegal (op : Byte) : Bool := Machine.config.legalOpcodes.contains op

/-- An instruction a program may hold without stopping the machine. -/
def Instr.wf (i : Instr) : Bool := isLegal i.opcode

end Sys2Proof
end

