-- ==== Sys2Proof/Machine/SystemStep.lean ====
section
/-! DEFINITION. The CPU step (40_addressing_and_helpers.md R167), the system step of the sync arbiter (47_bus_sync_input.md
R356), and the diagnostic trace line (60_exceptions.md R426). -/

namespace Sys2Proof.Machine

/-- `cpu_step()`: a pending interrupt is serviced and no instruction is fetched; else the opcode at `PC` is read: a byte that
`LEGAL_OPCODES` (D2) leaves out is fatal, and any other is the instruction that is fetched and run (R167, R414). Its
precondition is `HALT = 0`.
DESIGN CHOICE (assumption log 21): a service is followed by its 21 dots, and an NMI they raise goes before the handler's
first instruction, as R167, R410 and the first sentence of R415 say; the last sentence of R415 ("at least one instruction
of the handler runs before another service can start") says otherwise, and 90_conflicts.md does not settle it. -/
def cpuStep (s : State) : Result :=
  match s.cpu.iq with
  | k :: _ => .next (serviceInterrupt k s)
  | [] =>
    let op := fetchByte 0#16 s
    if isLegal op.1 then exec (fetch s).1 (fetch s).2 else .next (raiseFatal op.1 op.2)

/-- The dots that follow a CPU step: `3 * c` for the `c` cycles the step added to `CYC`, and none after a fatal step, which
adds none (R355, R356, R402). -/
def dotsAfter (s t : State) : Nat := config.dotsPerCycle * (t.cpu.cyc - s.cpu.cyc)

/-- `system_step()`: one CPU step, then its dots (R356). -/
def systemStep (s : State) : Result :=
  match cpuStep s with
  | .next t => .next (runDots (dotsAfter s t) t)
  | .fault f => .fault f
  | .refused r => .refused r

/-- One step of the machine: stuck while `HALT` is 1 (R35); else the host events that fall before this step, and the system
step (R357). -/
def machineStep (s : State) : Result :=
  if s.cpu.halt then .fault .halted else systemStep (deliverInbox s)

/-- The fields of the diagnostic trace line (R426). -/
structure TraceLine where
  pc : Word
  bytes : List Byte
  a : Byte
  x : Byte
  y : Byte
  p : Byte
  sp : Byte
  cyc : Nat
  deriving DecidableEq, Repr

/-- The trace line sampled before a step: the instruction's 1 to 3 bytes are read from `MEM` with no hook (R426, D26). -/
def traceLine (s : State) : TraceLine where
  pc := s.cpu.pc
  bytes := (bytesAtPC s).take (opcodeLength (s.peek s.cpu.pc))
  a := s.cpu.a
  x := s.cpu.x
  y := s.cpu.y
  p := s.cpu.p
  sp := s.cpu.sp
  cyc := s.cpu.cyc

end Sys2Proof.Machine
end

