-- ==== Sys2Proof/Machine/Step.lean ====
section
/-! DEFINITION. The step of the machine, and how one instruction word of the opcode table is laid where the next step
fetches it. -/

namespace Sys2Proof.Machine

/-- One system step (R356), preceded by the host events that fall before it. -/
def step (s : State) : Host.Outcome State Fault Refusal := machineStep s

/-- `s` with an instruction word stored where `step` fetches next: its three bytes from `PC` on, and nothing that would come
before the fetch (assumption log 13). -/
def State.withFetchWord (s : State) (nbits w : Nat) : State := placeAtPC (tableBytes nbits w) 0#16 (readyToFetch s)

end Sys2Proof.Machine
end

