-- ==== Sys2Proof/Safety.lean ====
section
/-! DEFINITION. The terms the claims are stated in: what an instruction leaves unchanged, how it ends, and the invariants of
a run. A safe run is one that has not stopped: `HALT` is 0 (60_exceptions.md R402), and nothing else can stop the machine
(R400). -/

namespace Sys2Proof.Machine

/-- The machine has not stopped (R402). -/
def State.running (s : State) : Bool := !s.cpu.halt

/-! What an instruction leaves unchanged. -/

/-- The bits of `P` outside `mask` are as they were. -/
def FlagsKept (mask : Byte) (c c' : Cpu) : Prop := c'.p &&& ~~~mask = c.p &&& ~~~mask

/-- Z and N are those of the result `v` (R161). -/
def ResultFlags (v : Byte) (c' : Cpu) : Prop := c'.flagZ = decide (v = 0x00#8) ∧ c'.flagN = v.getLsbD 7

/-- The byte registers by name (R20 to R23). -/
inductive Reg where
  | a | x | y | sp
  deriving DecidableEq, Repr

/-- The value of a byte register. -/
def Cpu.reg (c : Cpu) : Reg → Byte
  | .a => c.a
  | .x => c.x
  | .y => c.y
  | .sp => c.sp

/-- Every byte register but the listed ones is as it was. -/
def RegsKeptBut (written : List Reg) (c c' : Cpu) : Prop := ∀ r, r ∉ written → c'.reg r = c.reg r

/-- `IQ` and the fatal latch with its report are as they were: no instruction touches them but a gap (R34, R35). -/
def LatchesKept (c c' : Cpu) : Prop :=
  c'.iq = c.iq ∧ c'.halt = c.halt ∧ c'.haltOpcode = c.haltOpcode ∧ c'.haltCyc = c.haltCyc

/-- What an instruction leaves of the CPU beside `PC` and `CYC`: every byte register but the listed ones, the bits of `P`
outside `flags`, `IQ`, and the fatal latch with its report. -/
def CpuKeptBut (written : List Reg) (flags : Byte) (c c' : Cpu) : Prop :=
  RegsKeptBut written c c' ∧ FlagsKept flags c c' ∧ LatchesKept c c'

/-- Every byte of `MEM` reads as it did. -/
def MemKept (s t : State) : Prop := ∀ a : Nat, t.mem.read a = s.mem.read a

/-- Every byte of `MEM` but those at the listed addresses reads as it did. -/
def MemKeptBut (stored : List Word) (s t : State) : Prop :=
  ∀ a : Nat, a ∉ stored.map BitVec.toNat → t.mem.read a = s.mem.read a

/-- The PPU, the input device and the host's input queue are as they were. -/
def DevicesKept (s t : State) : Prop := t.ppu = s.ppu ∧ t.pad = s.pad ∧ t.inbox = s.inbox

/-- Nothing but the CPU changed. -/
def OutsideKept (s t : State) : Prop := MemKept s t ∧ DevicesKept s t

/-- Every byte of `MEM` and the host's input queue are as they were, and the PPU and the input device are as the bus reads
that led to `u` left them (R341). -/
def AfterReads (s u t : State) : Prop := MemKept s t ∧ t.ppu = u.ppu ∧ t.pad = u.pad ∧ t.inbox = s.inbox

/-- After the bus reads that led to `u`, the byte `v` was stored at `ea` and nowhere else, and the hook of `ea` ran, if it
has one (R342). The host's input queue is as it was. -/
def AfterStore (ea : Word) (v : Byte) (s u t : State) : Prop :=
  t.peek ea = v ∧ MemKeptBut [ea] s t ∧
    t.ppu = (writeHook ea v u).ppu ∧ t.pad = (writeHook ea v u).pad ∧ t.inbox = s.inbox

/-! Reading an instruction. -/

/-- Reads `n` bytes from `a` on through the bus, each once, by rising address: the bytes, and the state after (R72). -/
def readsFrom (a : Word) : Nat → State → List Byte × State
  | 0, s => ([], s)
  | n + 1, s => ((memRead a s).1 :: (readsFrom (a + 1#16) n (memRead a s).2).1, (readsFrom (a + 1#16) n (memRead a s).2).2)

/-! How an instruction ends. -/

/-- `PC` moved past an instruction of `len` bytes, and `CYC` by `n` (R167). -/
def FallsThrough (len n : Nat) (c c' : Cpu) : Prop :=
  c'.pc = c.pc + BitVec.ofNat 16 len ∧ c'.cyc = c.cyc + n

/-- `PC` is `target`, and `CYC` moved by `n` (R167, R251). -/
def GoesTo (target : Word) (n : Nat) (c c' : Cpu) : Prop := c'.pc = target ∧ c'.cyc = c.cyc + n

/-- One entry of a rule's encoding line: opcode, format, bytes, cycles, and `+` where a page cross adds a cycle. -/
structure Encoding where
  opcode : Byte
  format : Format
  bytes : Nat
  cycles : Nat
  plus : Bool
  deriving DecidableEq, Repr

/-- The encoding line of every mnemonic's rule (R180 to R273): opcode, format, bytes, base cycles, page-cross mark. -/
def encodingsOf : Mnemonic → List Encoding
  | .lda =>
    [⟨0xA9#8, .imm, 2, 2, false⟩, ⟨0xA5#8, .zp, 2, 3, false⟩, ⟨0xB5#8, .zpx, 2, 4, false⟩,
     ⟨0xAD#8, .abs, 3, 4, false⟩, ⟨0xBD#8, .abx, 3, 4, true⟩, ⟨0xB9#8, .aby, 3, 4, true⟩,
     ⟨0xA1#8, .izx, 2, 6, false⟩, ⟨0xB1#8, .izy, 2, 5, true⟩]
  | .ldx =>
    [⟨0xA2#8, .imm, 2, 2, false⟩, ⟨0xA6#8, .zp, 2, 3, false⟩, ⟨0xB6#8, .zpy, 2, 4, false⟩,
     ⟨0xAE#8, .abs, 3, 4, false⟩, ⟨0xBE#8, .aby, 3, 4, true⟩]
  | .ldy =>
    [⟨0xA0#8, .imm, 2, 2, false⟩, ⟨0xA4#8, .zp, 2, 3, false⟩, ⟨0xB4#8, .zpx, 2, 4, false⟩,
     ⟨0xAC#8, .abs, 3, 4, false⟩, ⟨0xBC#8, .abx, 3, 4, true⟩]
  | .sta =>
    [⟨0x85#8, .zp, 2, 3, false⟩, ⟨0x95#8, .zpx, 2, 4, false⟩, ⟨0x8D#8, .abs, 3, 4, false⟩,
     ⟨0x9D#8, .abx, 3, 5, false⟩, ⟨0x99#8, .aby, 3, 5, false⟩, ⟨0x81#8, .izx, 2, 6, false⟩,
     ⟨0x91#8, .izy, 2, 6, false⟩]
  | .stx =>
    [⟨0x86#8, .zp, 2, 3, false⟩, ⟨0x96#8, .zpy, 2, 4, false⟩, ⟨0x8E#8, .abs, 3, 4, false⟩]
  | .sty =>
    [⟨0x84#8, .zp, 2, 3, false⟩, ⟨0x94#8, .zpx, 2, 4, false⟩, ⟨0x8C#8, .abs, 3, 4, false⟩]
  | .tax =>
    [⟨0xAA#8, .imp, 1, 2, false⟩]
  | .tay =>
    [⟨0xA8#8, .imp, 1, 2, false⟩]
  | .txa =>
    [⟨0x8A#8, .imp, 1, 2, false⟩]
  | .tya =>
    [⟨0x98#8, .imp, 1, 2, false⟩]
  | .tsx =>
    [⟨0xBA#8, .imp, 1, 2, false⟩]
  | .txs =>
    [⟨0x9A#8, .imp, 1, 2, false⟩]
  | .adc =>
    [⟨0x69#8, .imm, 2, 2, false⟩, ⟨0x65#8, .zp, 2, 3, false⟩, ⟨0x75#8, .zpx, 2, 4, false⟩,
     ⟨0x6D#8, .abs, 3, 4, false⟩, ⟨0x7D#8, .abx, 3, 4, true⟩, ⟨0x79#8, .aby, 3, 4, true⟩,
     ⟨0x61#8, .izx, 2, 6, false⟩, ⟨0x71#8, .izy, 2, 5, true⟩]
  | .sbc =>
    [⟨0xE9#8, .imm, 2, 2, false⟩, ⟨0xE5#8, .zp, 2, 3, false⟩, ⟨0xF5#8, .zpx, 2, 4, false⟩,
     ⟨0xED#8, .abs, 3, 4, false⟩, ⟨0xFD#8, .abx, 3, 4, true⟩, ⟨0xF9#8, .aby, 3, 4, true⟩,
     ⟨0xE1#8, .izx, 2, 6, false⟩, ⟨0xF1#8, .izy, 2, 5, true⟩]
  | .and =>
    [⟨0x29#8, .imm, 2, 2, false⟩, ⟨0x25#8, .zp, 2, 3, false⟩, ⟨0x35#8, .zpx, 2, 4, false⟩,
     ⟨0x2D#8, .abs, 3, 4, false⟩, ⟨0x3D#8, .abx, 3, 4, true⟩, ⟨0x39#8, .aby, 3, 4, true⟩,
     ⟨0x21#8, .izx, 2, 6, false⟩, ⟨0x31#8, .izy, 2, 5, true⟩]
  | .ora =>
    [⟨0x09#8, .imm, 2, 2, false⟩, ⟨0x05#8, .zp, 2, 3, false⟩, ⟨0x15#8, .zpx, 2, 4, false⟩,
     ⟨0x0D#8, .abs, 3, 4, false⟩, ⟨0x1D#8, .abx, 3, 4, true⟩, ⟨0x19#8, .aby, 3, 4, true⟩,
     ⟨0x01#8, .izx, 2, 6, false⟩, ⟨0x11#8, .izy, 2, 5, true⟩]
  | .eor =>
    [⟨0x49#8, .imm, 2, 2, false⟩, ⟨0x45#8, .zp, 2, 3, false⟩, ⟨0x55#8, .zpx, 2, 4, false⟩,
     ⟨0x4D#8, .abs, 3, 4, false⟩, ⟨0x5D#8, .abx, 3, 4, true⟩, ⟨0x59#8, .aby, 3, 4, true⟩,
     ⟨0x41#8, .izx, 2, 6, false⟩, ⟨0x51#8, .izy, 2, 5, true⟩]
  | .cmp =>
    [⟨0xC9#8, .imm, 2, 2, false⟩, ⟨0xC5#8, .zp, 2, 3, false⟩, ⟨0xD5#8, .zpx, 2, 4, false⟩,
     ⟨0xCD#8, .abs, 3, 4, false⟩, ⟨0xDD#8, .abx, 3, 4, true⟩, ⟨0xD9#8, .aby, 3, 4, true⟩,
     ⟨0xC1#8, .izx, 2, 6, false⟩, ⟨0xD1#8, .izy, 2, 5, true⟩]
  | .cpx =>
    [⟨0xE0#8, .imm, 2, 2, false⟩, ⟨0xE4#8, .zp, 2, 3, false⟩, ⟨0xEC#8, .abs, 3, 4, false⟩]
  | .cpy =>
    [⟨0xC0#8, .imm, 2, 2, false⟩, ⟨0xC4#8, .zp, 2, 3, false⟩, ⟨0xCC#8, .abs, 3, 4, false⟩]
  | .bit =>
    [⟨0x24#8, .zp, 2, 3, false⟩, ⟨0x2C#8, .abs, 3, 4, false⟩]
  | .inc =>
    [⟨0xE6#8, .zp, 2, 5, false⟩, ⟨0xF6#8, .zpx, 2, 6, false⟩, ⟨0xEE#8, .abs, 3, 6, false⟩,
     ⟨0xFE#8, .abx, 3, 7, false⟩]
  | .dec =>
    [⟨0xC6#8, .zp, 2, 5, false⟩, ⟨0xD6#8, .zpx, 2, 6, false⟩, ⟨0xCE#8, .abs, 3, 6, false⟩,
     ⟨0xDE#8, .abx, 3, 7, false⟩]
  | .inx =>
    [⟨0xE8#8, .imp, 1, 2, false⟩]
  | .iny =>
    [⟨0xC8#8, .imp, 1, 2, false⟩]
  | .dex =>
    [⟨0xCA#8, .imp, 1, 2, false⟩]
  | .dey =>
    [⟨0x88#8, .imp, 1, 2, false⟩]
  | .asl =>
    [⟨0x0A#8, .acc, 1, 2, false⟩, ⟨0x06#8, .zp, 2, 5, false⟩, ⟨0x16#8, .zpx, 2, 6, false⟩,
     ⟨0x0E#8, .abs, 3, 6, false⟩, ⟨0x1E#8, .abx, 3, 7, false⟩]
  | .lsr =>
    [⟨0x4A#8, .acc, 1, 2, false⟩, ⟨0x46#8, .zp, 2, 5, false⟩, ⟨0x56#8, .zpx, 2, 6, false⟩,
     ⟨0x4E#8, .abs, 3, 6, false⟩, ⟨0x5E#8, .abx, 3, 7, false⟩]
  | .rol =>
    [⟨0x2A#8, .acc, 1, 2, false⟩, ⟨0x26#8, .zp, 2, 5, false⟩, ⟨0x36#8, .zpx, 2, 6, false⟩,
     ⟨0x2E#8, .abs, 3, 6, false⟩, ⟨0x3E#8, .abx, 3, 7, false⟩]
  | .ror =>
    [⟨0x6A#8, .acc, 1, 2, false⟩, ⟨0x66#8, .zp, 2, 5, false⟩, ⟨0x76#8, .zpx, 2, 6, false⟩,
     ⟨0x6E#8, .abs, 3, 6, false⟩, ⟨0x7E#8, .abx, 3, 7, false⟩]
  | .bcc =>
    [⟨0x90#8, .rel, 2, 2, false⟩]
  | .bcs =>
    [⟨0xB0#8, .rel, 2, 2, false⟩]
  | .beq =>
    [⟨0xF0#8, .rel, 2, 2, false⟩]
  | .bne =>
    [⟨0xD0#8, .rel, 2, 2, false⟩]
  | .bmi =>
    [⟨0x30#8, .rel, 2, 2, false⟩]
  | .bpl =>
    [⟨0x10#8, .rel, 2, 2, false⟩]
  | .bvc =>
    [⟨0x50#8, .rel, 2, 2, false⟩]
  | .bvs =>
    [⟨0x70#8, .rel, 2, 2, false⟩]
  | .jmp =>
    [⟨0x4C#8, .abs, 3, 3, false⟩, ⟨0x6C#8, .ind, 3, 5, false⟩]
  | .jsr =>
    [⟨0x20#8, .abs, 3, 6, false⟩]
  | .rts =>
    [⟨0x60#8, .imp, 1, 6, false⟩]
  | .pha =>
    [⟨0x48#8, .imp, 1, 3, false⟩]
  | .pla =>
    [⟨0x68#8, .imp, 1, 4, false⟩]
  | .php =>
    [⟨0x08#8, .imp, 1, 3, false⟩]
  | .plp =>
    [⟨0x28#8, .imp, 1, 4, false⟩]
  | .clc =>
    [⟨0x18#8, .imp, 1, 2, false⟩]
  | .sec =>
    [⟨0x38#8, .imp, 1, 2, false⟩]
  | .cli =>
    [⟨0x58#8, .imp, 1, 2, false⟩]
  | .sei =>
    [⟨0x78#8, .imp, 1, 2, false⟩]
  | .cld =>
    [⟨0xD8#8, .imp, 1, 2, false⟩]
  | .sed =>
    [⟨0xF8#8, .imp, 1, 2, false⟩]
  | .clv =>
    [⟨0xB8#8, .imp, 1, 2, false⟩]
  | .nop =>
    [⟨0xEA#8, .imp, 1, 2, false⟩]
  | .brk =>
    [⟨0x00#8, .imp, 1, 7, false⟩]
  | .rti =>
    [⟨0x40#8, .imp, 1, 6, false⟩]

/-- The 105 gaps as R121 lists them. -/
def gapBytes : List Byte :=
  [0x02#8, 0x03#8, 0x04#8, 0x07#8, 0x0B#8, 0x0C#8, 0x0F#8, 0x12#8, 0x13#8, 0x14#8, 0x17#8, 0x1A#8, 0x1B#8, 0x1C#8, 0x1F#8]
  ++ [0x22#8, 0x23#8, 0x27#8, 0x2B#8, 0x2F#8, 0x32#8, 0x33#8, 0x34#8, 0x37#8, 0x3A#8, 0x3B#8, 0x3C#8, 0x3F#8, 0x42#8, 0x43#8]
  ++ [0x44#8, 0x47#8, 0x4B#8, 0x4F#8, 0x52#8, 0x53#8, 0x54#8, 0x57#8, 0x5A#8, 0x5B#8, 0x5C#8, 0x5F#8, 0x62#8, 0x63#8, 0x64#8]
  ++ [0x67#8, 0x6B#8, 0x6F#8, 0x72#8, 0x73#8, 0x74#8, 0x77#8, 0x7A#8, 0x7B#8, 0x7C#8, 0x7F#8, 0x80#8, 0x82#8, 0x83#8, 0x87#8]
  ++ [0x89#8, 0x8B#8, 0x8F#8, 0x92#8, 0x93#8, 0x97#8, 0x9B#8, 0x9C#8, 0x9E#8, 0x9F#8, 0xA3#8, 0xA7#8, 0xAB#8, 0xAF#8, 0xB2#8]
  ++ [0xB3#8, 0xB7#8, 0xBB#8, 0xBF#8, 0xC2#8, 0xC3#8, 0xC7#8, 0xCB#8, 0xCF#8, 0xD2#8, 0xD3#8, 0xD4#8, 0xD7#8, 0xDA#8, 0xDB#8]
  ++ [0xDC#8, 0xDF#8, 0xE2#8, 0xE3#8, 0xE7#8, 0xEB#8, 0xEF#8, 0xF2#8, 0xF3#8, 0xF4#8, 0xF7#8, 0xFA#8, 0xFB#8, 0xFC#8, 0xFF#8]

/-- An instruction is encoded as the entry `e` says: its opcode byte comes first and its operand bytes follow. -/
def EncodedAs (i : Instr) (e : Encoding) : Prop :=
  encode i = e.opcode :: i.operand.bytes ∧ formatOf i.operand = e.format ∧ (encode i).length = e.bytes

/-- The cycles the entry `e` gives on an access that crossed a page or did not (R154). -/
def Encoding.cyclesWhen (e : Encoding) (crossed : Bool) : Nat := e.cycles + if crossed && e.plus then 1 else 0

/-! The invariants of a run. -/

/-- `SL` and `DOT` are in range (R40, R41: "scanline/dot are always within range"). -/
def CountersInRange (s : State) : Prop := s.ppu.sl ≤ 261 ∧ s.ppu.dot ≤ 340

/-- In the register `P`, `P.E` is 1 and `P.B` is 0 (R30). -/
def StatusBitsFixed (s : State) : Prop := s.cpu.flagE = true ∧ s.cpu.flagB = false

/-- `PPUSTATUS` is 0x00 or 0x80 (R50). -/
def PpuStatusLegal (s : State) : Prop := s.ppu.status = 0x00#8 ∨ s.ppu.status = 0x80#8

/-- Both arrays are in canonical form, of 65536 and 16384 bytes (R36, R51). -/
def ArraysCanonical (s : State) : Prop := s.mem.wf busSize = true ∧ s.ppu.vram.wf vramSize = true

/-- The frame buffer has its 61440 pixels (R52). -/
def FrameBufferSized (s : State) : Prop := s.ppu.fb.length = fbPixels

/-- At most one `NMI` entry is in `IQ`, and while one is, `NMIOUT` is 0 (R409). -/
def OneNmiPending (s : State) : Prop :=
  s.cpu.iq.count .nmi ≤ 1 ∧ (IntKind.nmi ∈ s.cpu.iq → s.ppu.nmiOut = false)

/-- Three dots for every cycle counted since reset: the coordinate is where `CYC` says (R355, R356; vector V9.3). -/
def DotsLocked (s : State) : Prop :=
  7 ≤ s.cpu.cyc ∧ s.ppu.sl * 341 + s.ppu.dot = (3 * (s.cpu.cyc - 7)) % 89342

/-- What holds of every state of a run from power-on. -/
structure Inv (s : State) : Prop where
  counters : CountersInRange s
  statusBits : StatusBitsFixed s
  ppuStatus : PpuStatusLegal s
  arrays : ArraysCanonical s
  frameBuffer : FrameBufferSized s
  oneNmi : OneNmiPending s

end Sys2Proof.Machine
end

