-- ==== Sys2Proof/Certificates/Slice0/Obligations.lean ====
section
/-! DEFINITION. The statements about the machine. Each docstring names the rules it formalises. A frame is said with the
terms of Safety.lean: `CpuKeptBut`, `MemKept`, `MemKeptBut`, `AfterReads`, `AfterStore`, `DevicesKept`. -/

open Sys2Proof Sys2Proof.Machine

/-! Encoding and decoding. -/

/-- Bytes written out from the encodings of R111, R113 and R115 decode to the instruction they stand for. -/
def Obligations.DecodeReadsTheSpecWords : Prop :=
  decode [0xA9#8, 0x80#8] = .ok (.ldaImm 0x80#8, []) ∧
  decode [0x8D#8, 0x00#8, 0x20#8] = .ok (.staAbs 0x2000#16, []) ∧
  decode [0xB5#8, 0xF0#8] = .ok (.ldaZpx 0xF0#8, []) ∧
  decode [0x0A#8] = .ok (.aslAcc, []) ∧
  decode [0x90#8, 0x05#8] = .ok (.bcc 0x05#8, []) ∧
  decode [0x6C#8, 0xFF#8, 0x02#8] = .ok (.jmpInd 0x02FF#16, []) ∧
  decode [0x20#8, 0x10#8, 0x80#8] = .ok (.jsrAbs 0x8010#16, []) ∧
  decode [0x00#8, 0xEA#8] = .ok (.brk, [0xEA#8]) ∧
  decode [0x02#8, 0x00#8] = .ok (.illegal02, [0x00#8])

/-- Decoding the bytes of any instruction, gaps included, with any operand, gives the instruction back and leaves the
bytes that follow (R110, R111, R113, R114). -/
def Obligations.DecodeOfEncode : Prop :=
  ∀ (i : Instr) (rest : List Byte), decode (encode i ++ rest) = .ok (i, rest)

/-- Whatever bytes decode to an instruction begin with that instruction's own encoding: no bit of them is ignored (R110,
R111, R113). -/
def Obligations.EncodeOfDecode : Prop :=
  ∀ (bs rest : List Byte) (i : Instr), decode bs = .ok (i, rest) → bs = encode i ++ rest

/-- The encoding lines of the 56 mnemonics (`encodingsOf`) are exactly the legal opcodes of the model, with the lengths of
R111, the base cycles of R118 and the page-cross mark of R119. -/
def Obligations.EncodingLinesAreTheOpcodeMap : Prop :=
  (∀ (i : Instr) (m : Mnemonic), i.mnemonic = some m →
    ∃ e ∈ encodingsOf m, EncodedAs i e ∧ i.length = e.bytes ∧ baseCycles e.opcode = e.cycles ∧
      pageSensitive e.opcode = e.plus) ∧
  (∀ (m : Mnemonic), ∀ e ∈ encodingsOf m, ∃ i : Instr, i.mnemonic = some m ∧ EncodedAs i e) ∧
  (∀ op : Byte, pageSensitive op = true → ∃ m : Mnemonic, ∃ e ∈ encodingsOf m, e.opcode = op ∧ e.plus = true)

/-- The ill-formed instructions are the 105 gaps, by the list of R121; every other opcode byte is legal (R122). -/
def Obligations.GapsAreTheListedBytes : Prop :=
  gapBytes.length = 105 ∧ gapBytes.Nodup ∧ ∀ i : Instr, i.wf = false ↔ i.opcode ∈ gapBytes

/-- A fetch reads the bytes of the instruction it answers, each once and by rising address, as many as the instruction's
length, each through the bus (R72). -/
def Obligations.FetchReadsTheEncoding : Prop :=
  ∀ s : State, readsFrom s.cpu.pc (fetch s).1.length s = (encode (fetch s).1, (fetch s).2)

/-! Operand forms. -/

/-- The immediate operand is the instruction's second byte, read once at `PC + 1`; the offset of a branch is read whether
or not the branch is taken, and only branches have one (R141, R151, R155). That the read of the immediate byte is the
fetch's, and that `operandValue` makes none of its own, is the model's form of the one read that R141 and R155 let
`operand()` make (assumption log 1). -/
def Obligations.ImmediateAndRelativeForms : Prop :=
  ∀ (s u : State) (i : Instr) (v : Byte), fetch s = (i, u) →
    (i.operand = .imm v →
      readsFrom s.cpu.pc 2 s = ([i.opcode, v], u) ∧ operandValue i.operand u = (v, u) ∧
      (resolve i.operand u).addr = s.cpu.pc + 1#16 ∧ (resolve i.operand u).crossed = false) ∧
    (i.operand = .rel v →
      readsFrom s.cpu.pc 2 s = ([i.opcode, v], u) ∧
      i.mnemonic ∈ [some .bcc, some .bcs, some .beq, some .bne, some .bmi, some .bpl, some .bvc, some .bvs])

/-- The zero-page forms: one operand byte is read; the indexed sums wrap in page zero; no page is crossed, nothing else is
read or written (R142, R143, R144). -/
def Obligations.ZeroPageForms : Prop :=
  ∀ (s u : State) (i : Instr) (z : Byte), fetch s = (i, u) →
    let r := resolve i.operand u
    (i.operand = .zp z →
      readsFrom s.cpu.pc 2 s = ([i.opcode, z], u) ∧ r.addr.toNat = z.toNat ∧ r.crossed = false ∧ r.st = u) ∧
    (i.operand = .zpx z →
      readsFrom s.cpu.pc 2 s = ([i.opcode, z], u) ∧ r.addr.toNat = (z.toNat + s.cpu.x.toNat) % 256 ∧
      r.crossed = false ∧ r.st = u) ∧
    (i.operand = .zpy z →
      readsFrom s.cpu.pc 2 s = ([i.opcode, z], u) ∧ r.addr.toNat = (z.toNat + s.cpu.y.toNat) % 256 ∧
      r.crossed = false ∧ r.st = u ∧ (i.opcode = 0xB6#8 ∧ i.mnemonic = some .ldx ∨ i.opcode = 0x96#8 ∧ i.mnemonic = some .stx))

/-- The absolute forms: two operand bytes are read, the low one first; the indexed sums wrap at 65536, and a change of the
high byte is a crossing (R145, R146, R147). -/
def Obligations.AbsoluteForms : Prop :=
  ∀ (s u : State) (i : Instr) (base : Word), fetch s = (i, u) →
    let r := resolve i.operand u
    let bytesRead := ∃ lo hi : Byte, base.toNat = hi.toNat * 256 + lo.toNat ∧
      readsFrom s.cpu.pc 3 s = ([i.opcode, lo, hi], u)
    (i.operand = .abs base → bytesRead ∧ r.addr = base ∧ r.crossed = false ∧ r.st = u) ∧
    (i.operand = .abx base →
      bytesRead ∧ r.addr.toNat = (base.toNat + s.cpu.x.toNat) % 65536 ∧
      r.crossed = decide (base.toNat / 256 ≠ r.addr.toNat / 256) ∧ r.st = u) ∧
    (i.operand = .aby base →
      bytesRead ∧ r.addr.toNat = (base.toNat + s.cpu.y.toNat) % 65536 ∧
      r.crossed = decide (base.toNat / 256 ≠ r.addr.toNat / 256) ∧ r.st = u)

/-- The forms with a pointer: JMP indirect takes the high byte from the pointer's own page, indirect-X and indirect-Y keep
the pointer in page zero, and indirect-Y detects a crossing of the indexed sum (R148, R149, R150). -/
def Obligations.PointerForms : Prop :=
  ∀ (s u : State) (i : Instr), fetch s = (i, u) →
    let r := resolve i.operand u
    (∀ p : Word, i.operand = .ind p →
      (∃ lo hi : Byte, p.toNat = hi.toNat * 256 + lo.toNat ∧ readsFrom s.cpu.pc 3 s = ([i.opcode, lo, hi], u)) ∧
      i.opcode = 0x6C#8 ∧ i.mnemonic = some .jmp ∧
      let tlo := memRead p u
      let thi := memRead ((p &&& 0xFF00#16) ||| ((p + 1#16) &&& 0x00FF#16)) tlo.2
      r.addr.toNat = thi.1.toNat * 256 + tlo.1.toNat ∧ r.crossed = false ∧ r.st = thi.2) ∧
    (∀ z : Byte, i.operand = .izx z →
      readsFrom s.cpu.pc 2 s = ([i.opcode, z], u) ∧
      let q := (z.toNat + s.cpu.x.toNat) % 256
      let lo := memRead (BitVec.ofNat 16 q) u
      let hi := memRead (BitVec.ofNat 16 ((q + 1) % 256)) lo.2
      r.addr.toNat = hi.1.toNat * 256 + lo.1.toNat ∧ r.crossed = false ∧ r.st = hi.2) ∧
    (∀ z : Byte, i.operand = .izy z →
      readsFrom s.cpu.pc 2 s = ([i.opcode, z], u) ∧
      let lo := memRead (BitVec.ofNat 16 z.toNat) u
      let hi := memRead (BitVec.ofNat 16 ((z.toNat + 1) % 256)) lo.2
      let base := hi.1.toNat * 256 + lo.1.toNat
      r.addr.toNat = (base + s.cpu.y.toNat) % 65536 ∧ r.crossed = decide (base / 256 ≠ r.addr.toNat / 256) ∧ r.st = hi.2)

/-! The bus and its devices. -/

/-- A bus read: the three live addresses answer with their hook's byte and leave its state; every other address answers
with its byte of `MEM` and changes nothing (R341). -/
def Obligations.BusReads : Prop :=
  ∀ (a : Word) (s : State),
    memRead a s =
      if a = 0x2002#16 then (s.ppu.onRead2002.1, { s with ppu := s.ppu.onRead2002.2 })
      else if a = 0x2007#16 then (s.ppu.onRead2007.1, { s with ppu := s.ppu.onRead2007.2 })
      else if a = 0x4016#16 then (s.pad.onRead4016.1, { s with pad := s.pad.onRead4016.2 })
      else (s.mem.read a.toNat, s)

/-- A bus write: the byte is stored at every address, ROM area included, and read back by the array; no other byte
changes; then the hook of the address runs, if it is one of the four that have one; the CPU is not touched (R342). -/
def Obligations.BusWrites : Prop :=
  ∀ (a : Word) (v : Byte) (s : State),
    let t := memWrite a v s
    t.peek a = v ∧ MemKeptBut [a] s t ∧ t.cpu = s.cpu ∧ t.inbox = s.inbox ∧
    t.ppu = (if a = 0x2000#16 then s.ppu.onWrite2000 v
      else if a = 0x2006#16 then s.ppu.onWrite2006 v
      else if a = 0x2007#16 then s.ppu.onWrite2007 v
      else s.ppu) ∧
    t.pad = (if a = 0x4016#16 then s.pad.onWrite4016 v else s.pad)

/-- The control register keeps the whole byte written and its bit 7 loads `NMIOUT`; a status read answers the status
before it clears bit 7, and clears `W` and `NMIOCC`; nothing else of the PPU changes (R312, R313). -/
def Obligations.ControlAndStatusHooks : Prop :=
  ∀ (p : Ppu) (d : Byte),
    p.onWrite2000 d = { p with ctrl := d, nmiOut := d.getLsbD 7 } ∧
    p.onRead2002.1 = p.status ∧
    p.onRead2002.2 = { p with status := p.status &&& 0x7F#8, w := false, nmiOcc := false }

/-- The two writes of the address register: the first puts its low seven bits into `T[14:8]`, the second its byte into
`T[7:0]` and `T` into `V`; the toggle flips each time; nothing else changes (R314). -/
def Obligations.AddressHook : Prop :=
  ∀ (p : Ppu) (d : Byte),
    let q := p.onWrite2006 d
    (p.w = false →
      q.t.extractLsb' 8 7 = d.extractLsb' 0 7 ∧ q.t.extractLsb' 0 8 = p.t.extractLsb' 0 8 ∧
      q = { p with t := q.t, w := true }) ∧
    (p.w = true →
      q.t.extractLsb' 0 8 = d ∧ q.t.extractLsb' 8 7 = p.t.extractLsb' 8 7 ∧
      q = { p with t := q.t, v := q.t, w := false })

/-- The data port: a read answers the byte buffered before and refills the buffer from the cell `V mod 16384`; a write
stores there and nowhere else; both then move `V` by 1, or by 32 if bit 2 of the control register is set, modulo 32768
(R316, R317, R318). -/
def Obligations.DataHooks : Prop :=
  ∀ (p : Ppu) (d : Byte),
    let cell := p.v.toNat % 16384
    let inc := if p.ctrl.getLsbD 2 then 32 else 1
    p.onRead2007.1 = p.rdbuf ∧
    p.onRead2007.2 = { p with rdbuf := p.vram.read cell, v := BitVec.ofNat 15 ((p.v.toNat + inc) % 32768) } ∧
    let q := p.onWrite2007 d
    q = { p with vram := q.vram, v := BitVec.ofNat 15 ((p.v.toNat + inc) % 32768) } ∧
    q.vram.read cell = d ∧ ∀ a : Nat, a ≠ cell → q.vram.read a = p.vram.read a

/-- The controller port: a write loads `LATCH` from bit 0 and reseeds `SR` if the bit is 1; a read answers 0x00 or 0x01
from bit 0 of `SR` and shifts a 1 into bit 7 (R349, R350). -/
def Obligations.ControllerHooks : Prop :=
  ∀ (q : Pad) (d : Byte),
    q.onWrite4016 d = { q with latch := d.getLsbD 0, sr := if d.getLsbD 0 then q.btn else q.sr } ∧
    q.onRead4016.1.toNat = q.sr.toNat % 2 ∧
    q.onRead4016.2 = { q with sr := BitVec.ofNat 8 (q.sr.toNat / 2 + 128) }

/-- After a strobe the reads give the eight buttons in the order of their bits, and then ones for ever (R351, generalised
to any buttons and any number of reads). -/
def Obligations.ButtonsReadInOrder : Prop :=
  ∀ (q : Pad) (n : Nat),
    let seeded := q.onWrite4016 0x01#8
    let r := (fun p : Pad => p.onRead4016.2)^[n] seeded
    r.onRead4016.1 = (if n < 8 then bitByte (q.btn.getLsbD n) else 0x01#8) ∧
    r.btn = q.btn ∧ r.latch = true ∧ (8 ≤ n → r.sr = 0xFF#8)

/-- A button event sets or clears its one bit of `BTN` and reseeds `SR` exactly while `LATCH` is 1 (R352). When the events
take effect is the statement HostEventsPrecedeTheStep. -/
def Obligations.ButtonEvents : Prop :=
  ∀ (q : Pad) (b : Fin 8),
    (∀ n : Nat, n < 8 → (q.keydown b).btn.getLsbD n = (decide (n = b.val) || q.btn.getLsbD n)) ∧
    (∀ n : Nat, n < 8 → (q.keyup b).btn.getLsbD n = (!decide (n = b.val) && q.btn.getLsbD n)) ∧
    (q.keydown b).latch = q.latch ∧ (q.keyup b).latch = q.latch ∧
    (q.keydown b).sr = (if q.latch then (q.keydown b).btn else q.sr) ∧
    (q.keyup b).sr = (if q.latch then (q.keyup b).btn else q.sr)

/-- A push stores at `0x0100 | SP` and then decrements `SP`; a pull increments `SP` and then reads; both wrap within page
one, and neither touches a device (R162, R163). -/
def Obligations.PushAndPull : Prop :=
  ∀ (v : Byte) (s : State),
    let t := push v s
    let cell : Byte → Word := fun sp => 0x0100#16 ||| sp.setWidth 16
    t.peek (cell s.cpu.sp) = v ∧ MemKeptBut [cell s.cpu.sp] s t ∧ DevicesKept s t ∧
    t.cpu = { s.cpu with sp := BitVec.ofNat 8 (s.cpu.sp.toNat + 255) } ∧
    (pull s).1 = s.peek (cell (BitVec.ofNat 8 (s.cpu.sp.toNat + 1))) ∧
    (pull s).2 = { s with cpu := { s.cpu with sp := BitVec.ofNat 8 (s.cpu.sp.toNat + 1) } }

/-! The instructions. Each statement holds for every state and every form, so it says that the instruction completes, what
it leaves, and what it keeps. `operandValue` is the operand byte with its bus reads (R10), `resolve` the effective address. -/

/-- LDA, LDX, LDY: the register takes the operand byte, Z and N follow it, and nothing else changes (R180, R181, R182). -/
def Obligations.LoadsFillTheirRegister : Prop :=
  ∀ (m : Mnemonic) (r : Reg), (m, r) ∈ [(Mnemonic.lda, Reg.a), (.ldx, .x), (.ldy, .y)] →
  ∀ (i : Instr) (s : State), i.mnemonic = some m →
    ∃ e ∈ encodingsOf m, EncodedAs i e ∧ ∃ t, exec i s = .next t ∧
      let v := operandValue i.operand s
      t.cpu.reg r = v.1 ∧ ResultFlags v.1 t.cpu ∧ CpuKeptBut [r] 0x82#8 s.cpu t.cpu ∧ AfterReads s v.2 t ∧
      FallsThrough e.bytes (e.cyclesWhen (resolve i.operand s).crossed) s.cpu t.cpu

/-- STA, STX, STY: the register is stored at the effective address, and then that address's hook runs; no flag, no
register and no other byte changes; the cycle count is fixed (R183, R184, R185). -/
def Obligations.StoresWriteTheirRegister : Prop :=
  ∀ (m : Mnemonic) (r : Reg), (m, r) ∈ [(Mnemonic.sta, Reg.a), (.stx, .x), (.sty, .y)] →
  ∀ (i : Instr) (s : State), i.mnemonic = some m →
    ∃ e ∈ encodingsOf m, EncodedAs i e ∧ ∃ t, exec i s = .next t ∧
      AfterStore (resolve i.operand s).addr (s.cpu.reg r) s s t ∧
      CpuKeptBut [] 0x00#8 s.cpu t.cpu ∧ FallsThrough e.bytes e.cycles s.cpu t.cpu

/-- The six transfers: the destination takes the source, Z and N follow it but for TXS, and nothing else changes (R186 to
R191). -/
def Obligations.TransfersCopyARegister : Prop :=
  (∀ (m : Mnemonic) (src dst : Reg),
    (m, src, dst) ∈ [(Mnemonic.tax, Reg.a, Reg.x), (.tay, .a, .y), (.txa, .x, .a), (.tya, .y, .a), (.tsx, .sp, .x)] →
    ∀ (i : Instr) (s : State), i.mnemonic = some m →
      ∃ e ∈ encodingsOf m, EncodedAs i e ∧ ∃ t, exec i s = .next t ∧
        t.cpu.reg dst = s.cpu.reg src ∧ ResultFlags (s.cpu.reg src) t.cpu ∧ CpuKeptBut [dst] 0x82#8 s.cpu t.cpu ∧
        OutsideKept s t ∧ FallsThrough e.bytes e.cycles s.cpu t.cpu) ∧
  (∀ (i : Instr) (s : State), i.mnemonic = some .txs →
    ∃ e ∈ encodingsOf .txs, EncodedAs i e ∧ ∃ t, exec i s = .next t ∧
      t.cpu.sp = s.cpu.x ∧ CpuKeptBut [.sp] 0x00#8 s.cpu t.cpu ∧ OutsideKept s t ∧
      FallsThrough e.bytes e.cycles s.cpu t.cpu)

/-- ADC and SBC: the 9-bit sum of `A`, the operand byte (complemented for SBC) and the carry gives the result and the new
carry; V is the sign rule; Z and N follow the result; `P.D` plays no part. For SBC the result is `A - M - (1 - C)` modulo
256, C is 1 iff there was no borrow, and V is 1 iff the signed difference is out of range (R164, R200, R201). The two
clauses on V after SBC hold under `SBC_V_OPERAND = complemented` only: that value is the model's choice of the parameter D30
leaves open (assumption log 11). -/
def Obligations.AddAndSubtractWithCarry : Prop :=
  ∀ (m : Mnemonic), m ∈ [Mnemonic.adc, .sbc] → ∀ (i : Instr) (s : State), i.mnemonic = some m →
    ∃ e ∈ encodingsOf m, EncodedAs i e ∧ ∃ t, exec i s = .next t ∧
      let v := operandValue i.operand s
      let b := if m = .adc then v.1 else v.1 ^^^ 0xFF#8
      let sum := s.cpu.a.toNat + b.toNat + s.cpu.flagC.toNat
      let r := BitVec.ofNat 8 sum
      t.cpu.a = r ∧ t.cpu.flagC = decide (255 < sum) ∧
      t.cpu.flagV = decide (((s.cpu.a ^^^ r) &&& (b ^^^ r) &&& 0x80#8) ≠ 0x00#8) ∧
      ResultFlags r t.cpu ∧ CpuKeptBut [.a] 0xC3#8 s.cpu t.cpu ∧ AfterReads s v.2 t ∧
      FallsThrough e.bytes (e.cyclesWhen (resolve i.operand s).crossed) s.cpu t.cpu ∧
      (m = .sbc →
        let borrow : Nat := 1 - s.cpu.flagC.toNat
        (t.cpu.a.toNat : Int) = ((s.cpu.a.toNat : Int) - v.1.toNat - borrow) % 256 ∧
        t.cpu.flagC = decide (v.1.toNat + borrow ≤ s.cpu.a.toNat) ∧
        t.cpu.flagV = decide (s.cpu.a.toInt - v.1.toInt - borrow < -128 ∨ 127 < s.cpu.a.toInt - v.1.toInt - borrow))

/-- AND, ORA, EOR: the bitwise operation on `A` and the operand byte; Z and N follow the result; C and V are kept (R202,
R203, R204). -/
def Obligations.LogicOnTheAccumulator : Prop :=
  ∀ (m : Mnemonic), m ∈ [Mnemonic.and, .ora, .eor] → ∀ (i : Instr) (s : State), i.mnemonic = some m →
    ∃ e ∈ encodingsOf m, EncodedAs i e ∧ ∃ t, exec i s = .next t ∧
      let v := operandValue i.operand s
      let r := if m = .and then s.cpu.a &&& v.1 else if m = .ora then s.cpu.a ||| v.1 else s.cpu.a ^^^ v.1
      t.cpu.a = r ∧ ResultFlags r t.cpu ∧ CpuKeptBut [.a] 0x82#8 s.cpu t.cpu ∧ AfterReads s v.2 t ∧
      FallsThrough e.bytes (e.cyclesWhen (resolve i.operand s).crossed) s.cpu t.cpu

/-- CMP, CPX, CPY: C iff the register is not below the operand, Z iff they are equal, N the sign of the 8-bit difference;
no register, no V, and no use of the incoming carry (R205, R206, R207). -/
def Obligations.ComparesSetCarryZeroNegative : Prop :=
  ∀ (m : Mnemonic) (r : Reg), (m, r) ∈ [(Mnemonic.cmp, Reg.a), (.cpx, .x), (.cpy, .y)] →
  ∀ (i : Instr) (s : State), i.mnemonic = some m →
    ∃ e ∈ encodingsOf m, EncodedAs i e ∧ ∃ t, exec i s = .next t ∧
      let v := operandValue i.operand s
      t.cpu.flagC = decide (v.1.toNat ≤ (s.cpu.reg r).toNat) ∧ t.cpu.flagZ = decide (s.cpu.reg r = v.1) ∧
      t.cpu.flagN = (s.cpu.reg r - v.1).getLsbD 7 ∧ CpuKeptBut [] 0x83#8 s.cpu t.cpu ∧ AfterReads s v.2 t ∧
      FallsThrough e.bytes (e.cyclesWhen (resolve i.operand s).crossed) s.cpu t.cpu

/-- BIT: Z iff `A` and the operand byte share no bit; N and V are bits 7 and 6 of the operand byte; C and `A` are kept
(R208). -/
def Obligations.BitTestsTheOperand : Prop :=
  ∀ (i : Instr) (s : State), i.mnemonic = some .bit →
    ∃ e ∈ encodingsOf .bit, EncodedAs i e ∧ ∃ t, exec i s = .next t ∧
      let v := operandValue i.operand s
      t.cpu.flagZ = decide (s.cpu.a &&& v.1 = 0x00#8) ∧ t.cpu.flagN = v.1.getLsbD 7 ∧ t.cpu.flagV = v.1.getLsbD 6 ∧
      CpuKeptBut [] 0xC2#8 s.cpu t.cpu ∧ AfterReads s v.2 t ∧ FallsThrough e.bytes e.cycles s.cpu t.cpu

/-- INC and DEC: one read of the effective address, one write of the byte plus or minus one there, the write after the
read; Z and N follow the byte written (R209, R210). -/
def Obligations.IncrementAndDecrementMemory : Prop :=
  ∀ (m : Mnemonic), m ∈ [Mnemonic.inc, .dec] → ∀ (i : Instr) (s : State), i.mnemonic = some m →
    ∃ e ∈ encodingsOf m, EncodedAs i e ∧ ∃ t, exec i s = .next t ∧
      let ea := (resolve i.operand s).addr
      let v := memRead ea s
      let r := if m = .inc then BitVec.ofNat 8 (v.1.toNat + 1) else BitVec.ofNat 8 (v.1.toNat + 255)
      AfterStore ea r s v.2 t ∧ ResultFlags r t.cpu ∧ CpuKeptBut [] 0x82#8 s.cpu t.cpu ∧
      FallsThrough e.bytes e.cycles s.cpu t.cpu

/-- INX, INY, DEX, DEY: the index register plus or minus one modulo 256; Z and N follow it; C and V are kept (R211 to
R214). -/
def Obligations.IncrementAndDecrementIndex : Prop :=
  ∀ (m : Mnemonic) (r : Reg) (k : Nat),
    (m, r, k) ∈ [(Mnemonic.inx, Reg.x, 1), (.iny, .y, 1), (.dex, .x, 255), (.dey, .y, 255)] →
  ∀ (i : Instr) (s : State), i.mnemonic = some m →
    ∃ e ∈ encodingsOf m, EncodedAs i e ∧ ∃ t, exec i s = .next t ∧
      (t.cpu.reg r).toNat = ((s.cpu.reg r).toNat + k) % 256 ∧ ResultFlags (t.cpu.reg r) t.cpu ∧
      CpuKeptBut [r] 0x82#8 s.cpu t.cpu ∧ OutsideKept s t ∧ FallsThrough e.bytes e.cycles s.cpu t.cpu

/-- ASL, LSR, ROL, ROR by one bit: C takes the bit shifted out, the rotates shift the old carry in, Z and N follow the
result. The accumulator form writes `A` and makes no access; a memory form reads its address once and then writes it once
(R230 to R233). -/
def Obligations.ShiftsAndRotates : Prop :=
  ∀ (m : Mnemonic), m ∈ [Mnemonic.asl, .lsr, .rol, .ror] → ∀ (i : Instr) (s : State), i.mnemonic = some m →
    ∃ e ∈ encodingsOf m, EncodedAs i e ∧ ∃ t, exec i s = .next t ∧
      let ea := (resolve i.operand s).addr
      let src := if i.operand = .acc then s.cpu.a else (memRead ea s).1
      let carry := s.cpu.flagC.toNat
      let r : Byte :=
        if m = .asl then BitVec.ofNat 8 (src.toNat * 2)
        else if m = .lsr then BitVec.ofNat 8 (src.toNat / 2)
        else if m = .rol then BitVec.ofNat 8 (src.toNat * 2 + carry)
        else BitVec.ofNat 8 (src.toNat / 2 + carry * 128)
      t.cpu.flagC = (if m = .asl ∨ m = .rol then src.getLsbD 7 else src.getLsbD 0) ∧
      ResultFlags r t.cpu ∧ FallsThrough e.bytes e.cycles s.cpu t.cpu ∧
      (i.operand = .acc → t.cpu.a = r ∧ CpuKeptBut [.a] 0x83#8 s.cpu t.cpu ∧ OutsideKept s t) ∧
      (i.operand ≠ .acc → CpuKeptBut [] 0x83#8 s.cpu t.cpu ∧ AfterStore ea r s (memRead ea s).2 t)

/-- The eight branches: the flag each tests; not taken, `PC + 2` and 2 cycles; taken, `PC + 2` plus the signed offset and
3 cycles, or 4 when the target lies in another page than `PC + 2`; nothing else changes (R166, R240 to R247). -/
def Obligations.BranchesOnOneFlag : Prop :=
  ∀ (m : Mnemonic) (n : Nat) (wanted : Bool),
    (m, n, wanted) ∈ [(Mnemonic.bcc, 0, false), (.bcs, 0, true), (.beq, 1, true), (.bne, 1, false), (.bmi, 7, true),
      (.bpl, 7, false), (.bvc, 6, false), (.bvs, 6, true)] →
  ∀ (i : Instr) (s : State), i.mnemonic = some m →
    ∃ e ∈ encodingsOf m, EncodedAs i e ∧ ∃ off : Byte, i.operand = .rel off ∧ ∃ t, exec i s = .next t ∧
      let next := s.cpu.pc + 2#16
      let target := next + off.signExtend 16
      (s.cpu.p.getLsbD n ≠ wanted → GoesTo next 2 s.cpu t.cpu) ∧
      (s.cpu.p.getLsbD n = wanted →
        GoesTo target (if target.toNat / 256 ≠ next.toNat / 256 then 4 else 3) s.cpu t.cpu) ∧
      CpuKeptBut [] 0x00#8 s.cpu t.cpu ∧ OutsideKept s t

/-- JMP: `PC` is the effective address of the absolute or the indirect form; no data access is made there, and nothing
else changes but what the pointer reads of the indirect form leave (R248). -/
def Obligations.JumpsSetThePc : Prop :=
  ∀ (i : Instr) (s : State), i.mnemonic = some .jmp →
    ∃ e ∈ encodingsOf .jmp, EncodedAs i e ∧ ∃ t, exec i s = .next t ∧
      GoesTo (resolve i.operand s).addr e.cycles s.cpu t.cpu ∧ CpuKeptBut [] 0x00#8 s.cpu t.cpu ∧
      AfterReads s (resolve i.operand s).st t

/-- JSR pushes `PC + 2`, the high byte first, and goes to its operand; RTS pulls the low byte, then the high byte, and goes
to their address plus one. No flag and no other register changes (R249, R250). -/
def Obligations.CallAndReturn : Prop :=
  (∀ (i : Instr) (s : State), i.mnemonic = some .jsr →
    ∃ e ∈ encodingsOf .jsr, EncodedAs i e ∧ ∃ target : Word, i.operand = .abs target ∧ ∃ t, exec i s = .next t ∧
      let ret := s.cpu.pc + 2#16
      let a1 := stackAddr s.cpu.sp
      let a2 := stackAddr (s.cpu.sp - 1#8)
      t.peek a1 = ret.extractLsb' 8 8 ∧ t.peek a2 = ret.extractLsb' 0 8 ∧ MemKeptBut [a1, a2] s t ∧
      t.cpu.sp = s.cpu.sp - 2#8 ∧ CpuKeptBut [.sp] 0x00#8 s.cpu t.cpu ∧ DevicesKept s t ∧
      GoesTo target e.cycles s.cpu t.cpu) ∧
  (∀ (i : Instr) (s : State), i.mnemonic = some .rts →
    ∃ e ∈ encodingsOf .rts, EncodedAs i e ∧ ∃ t, exec i s = .next t ∧
      let lo := s.peek (stackAddr (s.cpu.sp + 1#8))
      let hi := s.peek (stackAddr (s.cpu.sp + 2#8))
      GoesTo (BitVec.ofNat 16 (hi.toNat * 256 + lo.toNat + 1)) e.cycles s.cpu t.cpu ∧
      t.cpu.sp = s.cpu.sp + 2#8 ∧ CpuKeptBut [.sp] 0x00#8 s.cpu t.cpu ∧ OutsideKept s t)

/-- PHA pushes `A` and PHP pushes `P | 0x30`, changing no flag; PLA pulls into `A` with Z and N; PLP pulls
`(v & 0xEF) | 0x20` into `P` (R260 to R263). -/
def Obligations.StackInstructions : Prop :=
  (∀ (m : Mnemonic), m ∈ [Mnemonic.pha, .php] → ∀ (i : Instr) (s : State), i.mnemonic = some m →
    ∃ e ∈ encodingsOf m, EncodedAs i e ∧ ∃ t, exec i s = .next t ∧
      let cell := stackAddr s.cpu.sp
      t.peek cell = (if m = .pha then s.cpu.a else s.cpu.p ||| 0x30#8) ∧ MemKeptBut [cell] s t ∧ DevicesKept s t ∧
      t.cpu.sp = s.cpu.sp - 1#8 ∧ CpuKeptBut [.sp] 0x00#8 s.cpu t.cpu ∧ FallsThrough e.bytes e.cycles s.cpu t.cpu) ∧
  (∀ (i : Instr) (s : State), i.mnemonic = some .pla →
    ∃ e ∈ encodingsOf .pla, EncodedAs i e ∧ ∃ t, exec i s = .next t ∧
      let v := s.peek (stackAddr (s.cpu.sp + 1#8))
      t.cpu.a = v ∧ ResultFlags v t.cpu ∧ t.cpu.sp = s.cpu.sp + 1#8 ∧ CpuKeptBut [.a, .sp] 0x82#8 s.cpu t.cpu ∧
      OutsideKept s t ∧ FallsThrough e.bytes e.cycles s.cpu t.cpu) ∧
  (∀ (i : Instr) (s : State), i.mnemonic = some .plp →
    ∃ e ∈ encodingsOf .plp, EncodedAs i e ∧ ∃ t, exec i s = .next t ∧
      t.cpu.p = (s.peek (stackAddr (s.cpu.sp + 1#8)) &&& 0xEF#8) ||| 0x20#8 ∧
      t.cpu.sp = s.cpu.sp + 1#8 ∧ CpuKeptBut [.sp] 0xFF#8 s.cpu t.cpu ∧
      OutsideKept s t ∧ FallsThrough e.bytes e.cycles s.cpu t.cpu)

/-- CLC, SEC, CLI, SEI, CLD, SED, CLV write their one flag and nothing else (R264 to R270). -/
def Obligations.FlagInstructions : Prop :=
  ∀ (m : Mnemonic) (n : Nat) (value : Bool),
    (m, n, value) ∈ [(Mnemonic.clc, 0, false), (.sec, 0, true), (.cli, 2, false), (.sei, 2, true), (.cld, 3, false),
      (.sed, 3, true), (.clv, 6, false)] →
  ∀ (i : Instr) (s : State), i.mnemonic = some m →
    ∃ e ∈ encodingsOf m, EncodedAs i e ∧ ∃ t, exec i s = .next t ∧
      t.cpu.p.getLsbD n = value ∧ CpuKeptBut [] (0x01#8 <<< n) s.cpu t.cpu ∧ OutsideKept s t ∧
      FallsThrough e.bytes e.cycles s.cpu t.cpu

/-- NOP: the same state with `PC + 1` and `CYC + 2` (R271). -/
def Obligations.NopOnlyAdvances : Prop :=
  ∀ (i : Instr) (s : State), i.mnemonic = some .nop →
    encode i = [0xEA#8] ∧
    exec i s = .next { s with cpu := { s.cpu with pc := s.cpu.pc + 1#16, cyc := s.cpu.cyc + 2 } }

/-- BRK pushes `PC + 2`, high byte first, then `P | 0x30`, sets `P.I`, and goes to the address held low byte first at
0xFFFE; no other flag or register changes and no device is touched (R272). -/
def Obligations.BrkEntersThroughTheIrqVector : Prop :=
  ∀ (i : Instr) (s : State), i.mnemonic = some .brk →
    ∃ e ∈ encodingsOf .brk, EncodedAs i e ∧ ∃ t, exec i s = .next t ∧
      let ret := s.cpu.pc + 2#16
      let a1 := stackAddr s.cpu.sp
      let a2 := stackAddr (s.cpu.sp - 1#8)
      let a3 := stackAddr (s.cpu.sp - 2#8)
      t.peek a1 = ret.extractLsb' 8 8 ∧ t.peek a2 = ret.extractLsb' 0 8 ∧ t.peek a3 = s.cpu.p ||| 0x30#8 ∧
      MemKeptBut [a1, a2, a3] s t ∧ DevicesKept s t ∧
      t.cpu.sp = s.cpu.sp - 3#8 ∧ t.cpu.flagI = true ∧ CpuKeptBut [.sp] 0x04#8 s.cpu t.cpu ∧
      GoesTo (BitVec.ofNat 16 ((s.peek 0xFFFF#16).toNat * 256 + (s.peek 0xFFFE#16).toNat)) e.cycles s.cpu t.cpu

/-- RTI pulls `P` with bit 4 forced to 0 and bit 5 to 1, then the low and the high byte of `PC`, with no adjustment; no
other register and no device changes (R273). -/
def Obligations.RtiRestoresStatusAndPc : Prop :=
  ∀ (i : Instr) (s : State), i.mnemonic = some .rti →
    ∃ e ∈ encodingsOf .rti, EncodedAs i e ∧ ∃ t, exec i s = .next t ∧
      let lo := s.peek (stackAddr (s.cpu.sp + 2#8))
      let hi := s.peek (stackAddr (s.cpu.sp + 3#8))
      t.cpu.p = (s.peek (stackAddr (s.cpu.sp + 1#8)) &&& 0xEF#8) ||| 0x20#8 ∧
      GoesTo (BitVec.ofNat 16 (hi.toNat * 256 + lo.toNat)) e.cycles s.cpu t.cpu ∧
      t.cpu.sp = s.cpu.sp + 3#8 ∧ CpuKeptBut [.sp] 0xFF#8 s.cpu t.cpu ∧ OutsideKept s t

/-- A gap raises `Fatal`: the latch is set with the opcode and the cycle count, and nothing else changes. In a whole system
step the one possible other change is the read hook of the opcode fetch: `CYC` and `PC` stay, and no dot follows; a
pending interrupt goes first; and once the latch is set there is no step (R121, R402, R403). -/
def Obligations.GapsStopTheMachine : Prop :=
  (∀ (i : Instr) (s : State), i.opcode ∈ gapBytes →
    exec i s = .next { s with cpu := { s.cpu with halt := true, haltOpcode := i.opcode, haltCyc := s.cpu.cyc } }) ∧
  (∀ s : State, s.cpu.iq = [] → (memRead s.cpu.pc s).1 ∈ gapBytes →
    systemStep s = .next { (memRead s.cpu.pc s).2 with
      cpu := { s.cpu with halt := true, haltOpcode := (memRead s.cpu.pc s).1, haltCyc := s.cpu.cyc } }) ∧
  (∀ (s : State) (k : IntKind) (rest : List IntKind), s.cpu.iq = k :: rest →
    systemStep s = .next (runDots 21 (serviceInterrupt k s))) ∧
  (∀ s : State, s.cpu.halt = true → step s = .fault .halted)

/-! Interrupts. -/

/-- The service of a pending interrupt: `PC` pushed, high byte first, then `P | 0x30`; `P.I` set; `PC` from the vector of
the queue's head, low byte first; the whole queue emptied; 7 cycles; nothing else changes; 21 dots follow (R410). -/
def Obligations.InterruptService : Prop :=
  ∀ (s : State) (k : IntKind) (rest : List IntKind), s.cpu.iq = k :: rest →
    ∃ t, cpuStep s = .next t ∧ systemStep s = .next (runDots 21 t) ∧
      let a1 := stackAddr s.cpu.sp
      let a2 := stackAddr (s.cpu.sp - 1#8)
      let a3 := stackAddr (s.cpu.sp - 2#8)
      let vec := if k = .nmi then 0xFFFA#16 else 0xFFFE#16
      t.peek a1 = s.cpu.pc.extractLsb' 8 8 ∧ t.peek a2 = s.cpu.pc.extractLsb' 0 8 ∧
      t.peek a3 = s.cpu.p ||| 0x30#8 ∧ MemKeptBut [a1, a2, a3] s t ∧ DevicesKept s t ∧
      t.cpu = { s.cpu with
        sp := s.cpu.sp - 3#8
        p := s.cpu.p ||| 0x04#8
        pc := BitVec.ofNat 16 ((s.peek (vec + 1#16)).toNat * 256 + (s.peek vec).toNat)
        cyc := s.cpu.cyc + 7
        iq := [] }

/-- A pending interrupt goes before whatever instruction stands at `PC`, a BRK or a gap included: the step is the service of
the oldest entry and its 21 dots, and no instruction is fetched (R414, and the first sentence of R415). It holds of an NMI
that the 21 dots of a service have just raised too, so that a second service can come before the handler's first
instruction: that is the model's choice against the last sentence of R415 (assumption log 21). -/
def Obligations.InterruptBeforeInstruction : Prop :=
  ∀ (s : State) (k : IntKind) (rest : List IntKind), s.cpu.halt = false → (deliverInbox s).cpu.iq = k :: rest →
    step s = .next (runDots 21 (serviceInterrupt k (deliverInbox s)))

/-- Raising an interrupt appends it to the queue and changes nothing else; a host request is dropped while `P.I` is 1
(R406, R407). -/
def Obligations.InterruptRequests : Prop :=
  ∀ (s : State) (k : IntKind),
    raiseInterrupt k s = { s with cpu := { s.cpu with iq := s.cpu.iq ++ [k] } } ∧
    (s.cpu.flagI = false → irqRequest s = raiseInterrupt .irq s) ∧ (s.cpu.flagI = true → irqRequest s = s)

/-- An RTI after an interrupt service, or after a BRK, resumes exactly where the entry left off: `PC` (plus 2 for BRK),
`SP`, the other registers and the flags, with bit 4 of `P` clear and bit 5 set (R411, R416, R468). -/
def Obligations.RtiUndoesAnEntry : Prop :=
  (∀ (s : State) (k : IntKind), ∃ t, exec .rti (serviceInterrupt k s) = .next t ∧
    t.cpu.pc = s.cpu.pc ∧ t.cpu.p = (s.cpu.p &&& 0xEF#8) ||| 0x20#8 ∧ ∀ r, t.cpu.reg r = s.cpu.reg r) ∧
  (∀ s : State, ∃ u t, exec .brk s = .next u ∧ exec .rti u = .next t ∧
    t.cpu.pc = s.cpu.pc + 2#16 ∧ t.cpu.p = (s.cpu.p &&& 0xEF#8) ||| 0x20#8 ∧ ∀ r, t.cpu.reg r = s.cpu.reg r)

/-- An RTS after a JSR returns to the instruction after the JSR with `SP` as before, wherever `SP` pointed (R249, R250). -/
def Obligations.RtsUndoesJsr : Prop :=
  ∀ (s : State) (target : Word), ∃ u t, exec (.jsrAbs target) s = .next u ∧ u.cpu.pc = target ∧
    exec .rts u = .next t ∧ t.cpu.pc = s.cpu.pc + 3#16 ∧ t.cpu.p = s.cpu.p ∧ ∀ r, t.cpu.reg r = s.cpu.reg r

/-! The step. -/

/-- A step runs the decoded instruction: when the machine runs, nothing is pending after the host events before the step
(assumption log 6), and the bytes read at `PC` decode to `i`, the step is `exec i` on the state the fetch left, and then three
dots for each cycle it added (R167, R356). -/
def Obligations.StepRunsTheDecodedInstruction : Prop :=
  ∀ (s u v : State) (i : Instr) (bytes : List Byte), s.cpu.halt = false → deliverInbox s = u → u.cpu.iq = [] →
    readsFrom u.cpu.pc bytes.length u = (bytes, v) → decode bytes = .ok (i, []) →
    ∃ t, exec i v = .next t ∧ step s = .next (runDots (3 * (t.cpu.cyc - u.cpu.cyc)) t)

/-- While `HALT` is 1 there is no step and no host event has an effect; otherwise every state has a next state, since
everything but the fatal stop is total (R35, R400, R402). -/
def Obligations.OnlyHaltStopsAStep : Prop :=
  ∀ s : State, (s.cpu.halt = true → step s = .fault .halted) ∧ (s.cpu.halt = false → ∃ t, step s = .next t)

/-- A legal instruction takes 2 to 7 cycles and an interrupt service 7, and neither stops the machine (the inference of
R168; R471). -/
def Obligations.CyclesBetweenTwoAndSeven : Prop :=
  (∀ (i : Instr) (s t : State), i.wf = true → exec i s = .next t →
    s.cpu.cyc + 2 ≤ t.cpu.cyc ∧ t.cpu.cyc ≤ s.cpu.cyc + 7 ∧ t.cpu.halt = s.cpu.halt) ∧
  (∀ (k : IntKind) (s : State),
    (serviceInterrupt k s).cpu.cyc = s.cpu.cyc + 7 ∧ (serviceInterrupt k s).cpu.halt = s.cpu.halt)

/-! The PPU. -/

/-- One PPU dot, in full: the three coordinate events on the coordinates the dot begins with, the NMI test on the flags
they left, and the counter advance. The CPU is touched only in `IQ`, and `MEM` and the input device not at all. The
`FRAME_READY` pulse is recorded by `framesRaised`, the model's own counter (assumption log 5) (R302, R308, R309). -/
def Obligations.PpuDot : Prop :=
  ∀ s : State,
    let p := s.ppu
    let atFrame := p.sl = 0 ∧ p.dot = 0
    let atSet := p.sl = 241 ∧ p.dot = 1
    let atClear := p.sl = 261 ∧ p.dot = 1
    let occurred := if atSet then true else if atClear then false else p.nmiOcc
    let raised := occurred && p.nmiOut
    ppuStep s = { s with
      cpu := { s.cpu with iq := if raised then s.cpu.iq ++ [.nmi] else s.cpu.iq }
      ppu := { p with
        fb := if atFrame then p.renderFrame else p.fb
        framesRaised := if atFrame then p.framesRaised + 1 else p.framesRaised
        status := if atSet then p.status ||| 0x80#8 else if atClear then p.status &&& 0x5F#8 else p.status
        nmiOcc := occurred
        nmiOut := if raised then false else p.nmiOut
        dot := if 340 ≤ p.dot then 0 else p.dot + 1
        sl := if 340 ≤ p.dot then (if p.sl = 261 then 0 else p.sl + 1) else p.sl } }

/-- The frame render: every pixel is white if either bitplane of its tile has its bit set, else black, with alpha 0xFF
(R323). -/
def Obligations.RenderPaintsEveryPixel : Prop :=
  ∀ (p : Ppu) (ty tx r c k : Nat), ty < 30 → tx < 32 → r < 8 → c < 8 → k < 4 →
    let base := if p.ctrl.getLsbD 4 then 0x1000 else 0x0000
    let tile := (p.vram.read (0x2000 + ty * 32 + tx)).toNat
    let p0 := p.vram.read (base + tile * 16 + r)
    let p1 := p.vram.read (base + tile * 16 + r + 8)
    let x := tx * 8 + c
    let y := ty * 8 + r
    ({ p with fb := p.renderFrame } : Ppu).fbByte ((y * 256 + x) * 4 + k) =
      if (p0.getLsbD (7 - c) || p1.getLsbD (7 - c)) = true ∨ k = 3 then 0xFF#8 else 0x00#8

/-- Over any 89342 dots in a row the coordinate comes back to where it was and exactly one frame is raised, whatever the
coordinate they start from (R300, R304; the count of pulses is the model's record, assumption log 5). -/
def Obligations.OneFrameEvery89342Dots : Prop :=
  ∀ s : State, CountersInRange s →
    let t := runDots 89342 s
    t.ppu.sl = s.ppu.sl ∧ t.ppu.dot = s.ppu.dot ∧ t.ppu.framesRaised = s.ppu.framesRaised + 1

/-- From coordinate (0, 0) with the vblank flag clear and no CPU access, the flag is 1 after the dots 82182 to 89001, that
is in the 6820 states after 82183 to 89002 dots, and 0 otherwise in the frame (R305, R306). -/
def Obligations.VblankWindow : Prop :=
  ∀ (s : State) (n : Nat), s.ppu.sl = 0 → s.ppu.dot = 0 → s.ppu.status.getLsbD 7 = false → n ≤ 89342 →
    (runDots n s).ppu.status.getLsbD 7 = decide (82183 ≤ n ∧ n ≤ 89002)

/-- However many dots run, at most one NMI is raised for one arming, and it disarms; with `NMIOUT` clear none is; armed with
`NMIOCC` set, the next dot raises it unless that dot clears `NMIOCC` (R308; the inference R319). -/
def Obligations.OneNmiPerArming : Prop :=
  ∀ (s : State) (n : Nat),
    let t := runDots n s
    (t.cpu.iq = s.cpu.iq ∧ t.ppu.nmiOut = s.ppu.nmiOut ∨
      t.cpu.iq = s.cpu.iq ++ [.nmi] ∧ s.ppu.nmiOut = true ∧ t.ppu.nmiOut = false) ∧
    (s.ppu.nmiOut = true → s.ppu.nmiOcc = true → ¬(s.ppu.sl = 261 ∧ s.ppu.dot = 1) → 1 ≤ n →
      t.cpu.iq = s.cpu.iq ++ [.nmi])

/-! Reset. -/

/-- The state after power-on, whatever the arrays hold: every reset value of the table of R60, and `PC` from the reset
vector, low byte first (R451). But for `PC`, the values are no words of the source: R60 calls them the spec's own choice
(D6, D19, D21), which the model takes over (assumption log 20). The two report registers of `HALT`, which the table does not
list, are not spoken of (assumption log 3). -/
def Obligations.PowerOnValues : Prop :=
  ∀ mem vram : Memory,
    let s := State.powerOn mem vram
    s.cpu.a = 0x00#8 ∧ s.cpu.x = 0x00#8 ∧ s.cpu.y = 0x00#8 ∧ s.cpu.sp = 0xFD#8 ∧ s.cpu.p = 0x24#8 ∧
    s.cpu.pc.toNat = (mem.read 0xFFFD).toNat * 256 + (mem.read 0xFFFC).toNat ∧
    s.cpu.cyc = 7 ∧ s.cpu.iq = [] ∧ s.cpu.halt = false ∧ s.mem = mem ∧
    s.ppu.sl = 0 ∧ s.ppu.dot = 0 ∧ s.ppu.v = 0#15 ∧ s.ppu.t = 0#15 ∧ s.ppu.fx = 0#3 ∧ s.ppu.w = false ∧
    s.ppu.nmiOcc = false ∧ s.ppu.nmiOut = false ∧ s.ppu.rdbuf = 0x00#8 ∧ s.ppu.ctrl = 0x00#8 ∧
    s.ppu.status = 0x00#8 ∧ s.ppu.vram = vram ∧ (∀ n : Nat, s.ppu.fbByte n = 0x00#8) ∧
    s.pad.btn = 0x00#8 ∧ s.pad.sr = 0x00#8 ∧ s.pad.latch = false

/-- What the loader leaves: the PRG image repeated over 0x8000 to 0xFFFF, the CHR image over the first 8 KiB of VRAM (R455),
and zero everywhere else (R60, D23; assumption log 2). That there is a machine for every PRG of 1 to 32768 bytes and every
CHR of up to 8192 bytes is the model's choice (assumption log 14). -/
def Obligations.LoaderFillsTheArrays : Prop :=
  ∀ (prg chr : List Byte), 0 < prg.length → prg.length ≤ 32768 → chr.length ≤ 8192 →
    ∃ s, powerOnImages prg chr = some s ∧
      (∀ i : Nat, i < 32768 → s.mem.read (0x8000 + i) = prg.getD (i % prg.length) 0x00#8) ∧
      (∀ a : Nat, a < 0x8000 → s.mem.read a = 0x00#8) ∧
      (chr ≠ [] → ∀ i : Nat, i < 8192 → s.ppu.vram.read i = chr.getD (i % chr.length) 0x00#8) ∧
      (chr = [] → ∀ i : Nat, s.ppu.vram.read i = 0x00#8) ∧
      (∀ i : Nat, 8192 ≤ i → s.ppu.vram.read i = 0x00#8)

/-! Invariants and whole-machine rules. -/

/-- The invariants hold at reset, and after power-on from any images. -/
def Obligations.InvariantAtReset : Prop :=
  (Inv State.reset ∧ DotsLocked State.reset) ∧
  ∀ (prg chr : List Byte) (s : State), powerOnImages prg chr = some s → Inv s ∧ DotsLocked s

/-- Every step keeps what holds of a run: the counters in range, `P.E` 1 and `P.B` 0, the PPU status 0x00 or 0x80, both
arrays in canonical form, the frame buffer's size, and at most one NMI pending (R30, R40, R41, R50, R409). -/
def Obligations.StepKeepsTheInvariant : Prop :=
  ∀ s t : State, Inv s → step s = .next t → Inv t

/-- Every step keeps the PPU's coordinate locked to the cycle counter: three dots for each cycle since reset, modulo the
89342 dots of a frame (R355, R356). -/
def Obligations.StepKeepsDotsLocked : Prop :=
  ∀ s t : State, CountersInRange s → DotsLocked s → step s = .next t → DotsLocked t

/-- Only the instructions the spec names write each byte register (R20 to R23) and each flag (R26 to R32), and none writes
`IQ`, the dot counters, the frame buffer, `FX` or the live buttons. -/
def Obligations.WritersOfEachRegister : Prop :=
  ∀ (i : Instr) (s t : State), exec i s = .next t →
    (t.cpu.a ≠ s.cpu.a → i.mnemonic ∈ [some .lda, some .pla, some .txa, some .tya, some .adc, some .sbc, some .and,
      some .ora, some .eor, some .asl, some .lsr, some .rol, some .ror]) ∧
    (t.cpu.x ≠ s.cpu.x → i.mnemonic ∈ [some .ldx, some .tax, some .tsx, some .inx, some .dex]) ∧
    (t.cpu.y ≠ s.cpu.y → i.mnemonic ∈ [some .ldy, some .tay, some .iny, some .dey]) ∧
    (t.cpu.sp ≠ s.cpu.sp → i.mnemonic ∈ [some .txs, some .pha, some .php, some .pla, some .plp, some .jsr, some .rts,
      some .brk, some .rti]) ∧
    (t.cpu.flagC ≠ s.cpu.flagC → i.mnemonic ∈ [some .adc, some .sbc, some .cmp, some .cpx, some .cpy, some .asl,
      some .lsr, some .rol, some .ror, some .clc, some .sec, some .plp, some .rti]) ∧
    (t.cpu.flagZ ≠ s.cpu.flagZ ∨ t.cpu.flagN ≠ s.cpu.flagN → i.mnemonic ∈ [some .lda, some .ldx, some .ldy, some .pla,
      some .tax, some .tay, some .txa, some .tya, some .tsx, some .adc, some .sbc, some .and, some .ora, some .eor,
      some .inc, some .dec, some .inx, some .iny, some .dex, some .dey, some .asl, some .lsr, some .rol, some .ror,
      some .cmp, some .cpx, some .cpy, some .bit, some .plp, some .rti]) ∧
    (t.cpu.flagI ≠ s.cpu.flagI → i.mnemonic ∈ [some .sei, some .cli, some .brk, some .plp, some .rti]) ∧
    (t.cpu.flagD ≠ s.cpu.flagD → i.mnemonic ∈ [some .sed, some .cld, some .plp, some .rti]) ∧
    (t.cpu.flagV ≠ s.cpu.flagV → i.mnemonic ∈ [some .adc, some .sbc, some .bit, some .clv, some .plp, some .rti]) ∧
    t.cpu.iq = s.cpu.iq ∧ t.ppu.sl = s.ppu.sl ∧ t.ppu.dot = s.ppu.dot ∧ t.ppu.fb = s.ppu.fb ∧
    t.ppu.framesRaised = s.ppu.framesRaised ∧ t.ppu.fx = s.ppu.fx ∧ t.pad.btn = s.pad.btn ∧ t.inbox = s.inbox

/-- No legal instruction reads `CYC`, `IQ`, `SL` or `DOT`: from two states that differ only there it does the same to
everything else, and adds the same number of cycles (R169 d). -/
def Obligations.CountersAreUnread : Prop :=
  ∀ (i : Instr) (s t : State) (cyc : Nat) (iq : List IntKind) (sl dot : Nat), i.wf = true → exec i s = .next t →
    exec i { s with cpu := { s.cpu with cyc := cyc, iq := iq }, ppu := { s.ppu with sl := sl, dot := dot } } =
      .next { t with
        cpu := { t.cpu with cyc := cyc + (t.cpu.cyc - s.cpu.cyc), iq := iq }
        ppu := { t.ppu with sl := sl, dot := dot } }

/-- The Decimal flag has no effect on any operation: an instruction that neither writes the flag nor pushes or pulls the
status does the same with the flag set as with it clear, ADC and SBC included (R29). -/
def Obligations.DecimalFlagIsInert : Prop :=
  ∀ (i : Instr) (s t : State) (d : Bool),
    i.mnemonic ∉ [some .php, some .plp, some .brk, some .rti, some .sed, some .cld] → exec i s = .next t →
    exec i (s.mapCpu (Cpu.setD d)) = .next (t.mapCpu (Cpu.setD d))

/-! The host's input. -/

/-- The host's events take effect before the step they precede and at no other time: the first batch, in its order and each
with the effect of R352 (one bit of `BTN`, and `SR` reseeded exactly while `LATCH` is 1) or of R407 (an IRQ entry at the tail
of `IQ`, dropped while `P.I` is 1), then the system step; the later batches stay in the queue, and no step touches them
(R357; that the events stand in a queue of batches is the model's form, assumption log 6). -/
def Obligations.HostEventsPrecedeTheStep : Prop :=
  let effect (u : State) : HostEvent → State
    | .keydown b =>
      let btn := u.pad.btn ||| (1#8 <<< b.val)
      { u with pad := { u.pad with btn := btn, sr := if u.pad.latch then btn else u.pad.sr } }
    | .keyup b =>
      let btn := u.pad.btn &&& ~~~(1#8 <<< b.val)
      { u with pad := { u.pad with btn := btn, sr := if u.pad.latch then btn else u.pad.sr } }
    | .irqRequest =>
      { u with cpu := { u.cpu with iq := if u.cpu.p.getLsbD 2 then u.cpu.iq else u.cpu.iq ++ [.irq] } }
  (∀ s : State, s.inbox = [] → deliverInbox s = s) ∧
  (∀ (s : State) (now : List HostEvent) (later : List (List HostEvent)), s.inbox = now :: later →
    deliverInbox s = now.foldl effect { s with inbox := later }) ∧
  (∀ s : State, s.cpu.halt = false → step s = systemStep (deliverInbox s)) ∧
  (∀ s t : State, step s = .next t → t.inbox = s.inbox.tail)
end

