-- ==== Sys2Proof/Laws/Decode.lean ====
section
/-! SUPPORT. The row of the matrix behind every opcode byte, said once: the instruction it makes has that opcode and
carries exactly the operand bytes it was made from. Decoding, encoding and fetching are derived from this. -/

namespace Sys2Proof

open Sys2Proof.Machine

theorem loByte_toNat (v : Word) : (loByte v).toNat = v.toNat % 256 := by
  simp [loByte, BitVec.extractLsb'_toNat]

theorem hiByte_toNat (v : Word) : (hiByte v).toNat = v.toNat / 256 := by
  have := v.isLt
  simp only [hiByte, BitVec.extractLsb'_toNat, Nat.shiftRight_eq_div_pow]
  omega

theorem joinBytes_toNat (hi lo : Byte) : (joinBytes hi lo).toNat = hi.toNat * 256 + lo.toNat := by
  have h := Nat.shiftLeft_add_eq_or_of_lt (b := lo.toNat) (i := 8) lo.isLt hi.toNat
  rw [joinBytes, BitVec.toNat_append, ← h, Nat.shiftLeft_eq]

@[simp] theorem joinBytes_hi_lo (v : Word) : joinBytes (hiByte v) (loByte v) = v := by
  apply BitVec.eq_of_toNat_eq
  rw [joinBytes_toNat, hiByte_toNat, loByte_toNat]
  omega

@[simp] theorem loByte_joinBytes (hi lo : Byte) : loByte (joinBytes hi lo) = lo := by
  apply BitVec.eq_of_toNat_eq
  have := lo.isLt
  rw [loByte_toNat, joinBytes_toNat]
  omega

@[simp] theorem hiByte_joinBytes (hi lo : Byte) : hiByte (joinBytes hi lo) = hi := by
  apply BitVec.eq_of_toNat_eq
  have := lo.isLt
  rw [hiByte_toNat, joinBytes_toNat]
  omega

/-- What the row of `op` must be: the instructions it makes have the opcode `op` and carry what they were made from. -/
def RowFor (op : Byte) : Row → Prop
  | .noOperand i => i.opcode = op ∧ i.operand.bytes = []
  | .byteOperand f => ∀ v, (f v).opcode = op ∧ (f v).operand.bytes = [v]
  | .wordOperand f => ∀ v, (f v).opcode = op ∧ (f v).operand.bytes = [loByte v, hiByte v]

/-- Every opcode byte is the opcode of some instruction (R114). -/
theorem opcode_surjective : ∀ op : Byte, ∃ i : Instr, i.opcode = op := by
  have h : ∀ op : Byte, (assemble op 0x00#8 0x00#8).opcode = op := by decide
  exact fun op => ⟨_, h op⟩

theorem rowFor_opcode (i : Instr) : RowFor i.opcode (rowOf i.opcode) := by
  cases i <;> simp only [Instr.opcode] <;> first | exact fun _ => And.intro rfl rfl | exact And.intro rfl rfl

theorem rowFor (op : Byte) : RowFor op (rowOf op) := by
  obtain ⟨i, rfl⟩ := opcode_surjective op
  exact rowFor_opcode i

/-- The row of an instruction's own opcode makes that instruction from its own operand bytes. -/
theorem row_shape (i : Instr) :
    (rowOf i.opcode = .noOperand i ∧ i.operand.bytes = []) ∨
    (∃ f v, rowOf i.opcode = .byteOperand f ∧ i = f v ∧ i.operand.bytes = [v]) ∨
    (∃ f v, rowOf i.opcode = .wordOperand f ∧ i = f v ∧ i.operand.bytes = [loByte v, hiByte v]) := by
  cases i <;> simp only [Instr.opcode] <;> first
    | exact .inl ⟨rfl, rfl⟩
    | exact .inr (.inl ⟨_, _, rfl, rfl, rfl⟩)
    | exact .inr (.inr ⟨_, _, rfl, rfl, rfl⟩)

/-- The documented opcodes are the bytes whose row of the matrix has a mnemonic, in rising order (R115, R116). -/
theorem documentedOpcodes_eq : documentedOpcodes =
    ((List.range 256).map (BitVec.ofNat 8)).filter fun op => (assemble op 0x00#8 0x00#8).mnemonic.isSome := by decide

/-- An opcode is legal exactly when it has a mnemonic (R116, R121). -/
theorem isLegal_eq (op : Byte) : isLegal op = (assemble op 0x00#8 0x00#8).mnemonic.isSome := by
  have : ∃ n < 256, BitVec.ofNat 8 n = op := ⟨op.toNat, op.isLt, BitVec.ofNat_toNat ..⟩
  rw [isLegal, config_legalOpcodes, documentedOpcodes_eq, Bool.eq_iff_iff]
  simp [this]

/-- The length R111 gives a format is one more than the operand bytes its instructions carry (R110, R113). -/
theorem opcodeLength_opcode (i : Instr) : opcodeLength i.opcode = i.operand.bytes.length + 1 := by
  cases i <;> simp only [Instr.opcode] <;> rfl

/-- A format has as many operand bytes as its instructions carry (R110). -/
theorem operandBytes_opcode (i : Instr) : operandBytes i.opcode = i.operand.bytes.length := by
  simp [operandBytes, opcodeLength_opcode]

theorem opcodeLength_eq (op : Byte) : opcodeLength op = operandBytes op + 1 := by
  obtain ⟨i, rfl⟩ := opcode_surjective op
  rw [opcodeLength_opcode, operandBytes_opcode]

theorem operandBytes_le (op : Byte) : operandBytes op ≤ 2 := by
  obtain ⟨i, rfl⟩ := opcode_surjective op
  rw [operandBytes_opcode]
  cases i.operand <;> simp [Operand.bytes]

/-- The bytes an instruction was assembled from are its encoding (R111, R113). -/
theorem encode_assemble (op b1 b2 : Byte) : encode (assemble op b1 b2) = op :: [b1, b2].take (operandBytes op) := by
  have h := rowFor op
  have hn : ∀ i : Instr, i.opcode = op → operandBytes op = i.operand.bytes.length := fun i hi => hi ▸ operandBytes_opcode i
  unfold assemble encode
  cases hr : rowOf op with
  | noOperand i =>
    rw [hr] at h
    simp [h.1, h.2, hn i h.1]
  | byteOperand f =>
    rw [hr] at h
    simp [(h _).1, (h _).2, hn _ (h b1).1]
  | wordOperand f =>
    rw [hr] at h
    simp [(h _).1, (h _).2, hn _ (h (joinBytes b2 b1)).1]

@[simp] theorem assemble_opcode (op b1 b2 : Byte) : (assemble op b1 b2).opcode = op := by
  have := congrArg List.head? (encode_assemble op b1 b2)
  simpa [encode] using this

/-- The mnemonic is a function of the opcode byte alone (R114, R116). -/
theorem assemble_mnemonic (i : Instr) (b1 b2 : Byte) : (assemble i.opcode b1 b2).mnemonic = i.mnemonic := by
  cases i <;> simp only [Instr.opcode] <;> rfl

/-- An instruction is well-formed exactly when it has a mnemonic (R121, R122). -/
theorem Instr.wf_eq (i : Instr) : i.wf = i.mnemonic.isSome := by rw [Instr.wf, isLegal_eq, assemble_mnemonic]

end Sys2Proof
end

