-- ==== Sys2Proof/Laws/State.lean ====
section
/-! SUPPORT. One lemma per field per update of State, Cpu, Ppu and Pad, each true by unfolding once, so that no later proof
unfolds a record update. -/

namespace Sys2Proof.Machine

/-! Updates of the whole state. -/

@[simp] theorem State.mapCpu_cpu (f : Cpu → Cpu) (s : State) : (s.mapCpu f).cpu = f s.cpu := rfl
@[simp] theorem State.mapCpu_mem (f : Cpu → Cpu) (s : State) : (s.mapCpu f).mem = s.mem := rfl
@[simp] theorem State.mapCpu_ppu (f : Cpu → Cpu) (s : State) : (s.mapCpu f).ppu = s.ppu := rfl
@[simp] theorem State.mapCpu_pad (f : Cpu → Cpu) (s : State) : (s.mapCpu f).pad = s.pad := rfl
@[simp] theorem State.mapCpu_inbox (f : Cpu → Cpu) (s : State) : (s.mapCpu f).inbox = s.inbox := rfl

@[simp] theorem State.mapPpu_cpu (f : Ppu → Ppu) (s : State) : (s.mapPpu f).cpu = s.cpu := rfl
@[simp] theorem State.mapPpu_mem (f : Ppu → Ppu) (s : State) : (s.mapPpu f).mem = s.mem := rfl
@[simp] theorem State.mapPpu_ppu (f : Ppu → Ppu) (s : State) : (s.mapPpu f).ppu = f s.ppu := rfl
@[simp] theorem State.mapPpu_pad (f : Ppu → Ppu) (s : State) : (s.mapPpu f).pad = s.pad := rfl
@[simp] theorem State.mapPpu_inbox (f : Ppu → Ppu) (s : State) : (s.mapPpu f).inbox = s.inbox := rfl

@[simp] theorem State.mapPad_cpu (f : Pad → Pad) (s : State) : (s.mapPad f).cpu = s.cpu := rfl
@[simp] theorem State.mapPad_mem (f : Pad → Pad) (s : State) : (s.mapPad f).mem = s.mem := rfl
@[simp] theorem State.mapPad_ppu (f : Pad → Pad) (s : State) : (s.mapPad f).ppu = s.ppu := rfl
@[simp] theorem State.mapPad_pad (f : Pad → Pad) (s : State) : (s.mapPad f).pad = f s.pad := rfl
@[simp] theorem State.mapPad_inbox (f : Pad → Pad) (s : State) : (s.mapPad f).inbox = s.inbox := rfl

@[simp] theorem State.poke_cpu (a : Word) (v : Byte) (s : State) : (s.poke a v).cpu = s.cpu := rfl
@[simp] theorem State.poke_mem (a : Word) (v : Byte) (s : State) : (s.poke a v).mem = s.mem.write a.toNat v := rfl
@[simp] theorem State.poke_ppu (a : Word) (v : Byte) (s : State) : (s.poke a v).ppu = s.ppu := rfl
@[simp] theorem State.poke_pad (a : Word) (v : Byte) (s : State) : (s.poke a v).pad = s.pad := rfl
@[simp] theorem State.poke_inbox (a : Word) (v : Byte) (s : State) : (s.poke a v).inbox = s.inbox := rfl

@[simp] theorem State.jump_cpu (target : Word) (s : State) : (s.jump target).cpu = { s.cpu with pc := target } := rfl
@[simp] theorem State.jump_mem (target : Word) (s : State) : (s.jump target).mem = s.mem := rfl
@[simp] theorem State.jump_ppu (target : Word) (s : State) : (s.jump target).ppu = s.ppu := rfl
@[simp] theorem State.jump_pad (target : Word) (s : State) : (s.jump target).pad = s.pad := rfl
@[simp] theorem State.jump_inbox (target : Word) (s : State) : (s.jump target).inbox = s.inbox := rfl

@[simp] theorem State.spend_cpu (n : Nat) (s : State) : (s.spend n).cpu = { s.cpu with cyc := s.cpu.cyc + n } := rfl
@[simp] theorem State.spend_mem (n : Nat) (s : State) : (s.spend n).mem = s.mem := rfl
@[simp] theorem State.spend_ppu (n : Nat) (s : State) : (s.spend n).ppu = s.ppu := rfl
@[simp] theorem State.spend_pad (n : Nat) (s : State) : (s.spend n).pad = s.pad := rfl
@[simp] theorem State.spend_inbox (n : Nat) (s : State) : (s.spend n).inbox = s.inbox := rfl

@[simp] theorem retire_mem (op : Byte) (crossed : Bool) (s : State) : (retire op crossed s).mem = s.mem := rfl
@[simp] theorem retire_ppu (op : Byte) (crossed : Bool) (s : State) : (retire op crossed s).ppu = s.ppu := rfl
@[simp] theorem retire_pad (op : Byte) (crossed : Bool) (s : State) : (retire op crossed s).pad = s.pad := rfl
@[simp] theorem retire_inbox (op : Byte) (crossed : Bool) (s : State) : (retire op crossed s).inbox = s.inbox := rfl

@[simp] theorem retire_cpu_a (op : Byte) (crossed : Bool) (s : State) : (retire op crossed s).cpu.a = s.cpu.a := rfl
@[simp] theorem retire_cpu_x (op : Byte) (crossed : Bool) (s : State) : (retire op crossed s).cpu.x = s.cpu.x := rfl
@[simp] theorem retire_cpu_y (op : Byte) (crossed : Bool) (s : State) : (retire op crossed s).cpu.y = s.cpu.y := rfl
@[simp] theorem retire_cpu_sp (op : Byte) (crossed : Bool) (s : State) : (retire op crossed s).cpu.sp = s.cpu.sp := rfl
@[simp] theorem retire_cpu_p (op : Byte) (crossed : Bool) (s : State) : (retire op crossed s).cpu.p = s.cpu.p := rfl
@[simp] theorem retire_cpu_pc (op : Byte) (crossed : Bool) (s : State) : (retire op crossed s).cpu.pc = s.cpu.pc + BitVec.ofNat 16 (opcodeLength op) := rfl
@[simp] theorem retire_cpu_cyc (op : Byte) (crossed : Bool) (s : State) : (retire op crossed s).cpu.cyc = s.cpu.cyc + (baseCycles op + pageExtra op crossed) := rfl
@[simp] theorem retire_cpu_iq (op : Byte) (crossed : Bool) (s : State) : (retire op crossed s).cpu.iq = s.cpu.iq := rfl
@[simp] theorem retire_cpu_halt (op : Byte) (crossed : Bool) (s : State) : (retire op crossed s).cpu.halt = s.cpu.halt := rfl
@[simp] theorem retire_cpu_haltOpcode (op : Byte) (crossed : Bool) (s : State) : (retire op crossed s).cpu.haltOpcode = s.cpu.haltOpcode := rfl
@[simp] theorem retire_cpu_haltCyc (op : Byte) (crossed : Bool) (s : State) : (retire op crossed s).cpu.haltCyc = s.cpu.haltCyc := rfl

@[simp] theorem retireAt_cpu (op : Byte) (s : State) : (retireAt op s).cpu = { s.cpu with cyc := s.cpu.cyc + baseCycles op } := rfl
@[simp] theorem retireAt_mem (op : Byte) (s : State) : (retireAt op s).mem = s.mem := rfl
@[simp] theorem retireAt_ppu (op : Byte) (s : State) : (retireAt op s).ppu = s.ppu := rfl
@[simp] theorem retireAt_pad (op : Byte) (s : State) : (retireAt op s).pad = s.pad := rfl
@[simp] theorem retireAt_inbox (op : Byte) (s : State) : (retireAt op s).inbox = s.inbox := rfl

@[simp] theorem raiseInterrupt_cpu (k : IntKind) (s : State) : (raiseInterrupt k s).cpu = { s.cpu with iq := s.cpu.iq ++ [k] } := rfl
@[simp] theorem raiseInterrupt_mem (k : IntKind) (s : State) : (raiseInterrupt k s).mem = s.mem := rfl
@[simp] theorem raiseInterrupt_ppu (k : IntKind) (s : State) : (raiseInterrupt k s).ppu = s.ppu := rfl
@[simp] theorem raiseInterrupt_pad (k : IntKind) (s : State) : (raiseInterrupt k s).pad = s.pad := rfl
@[simp] theorem raiseInterrupt_inbox (k : IntKind) (s : State) : (raiseInterrupt k s).inbox = s.inbox := rfl

@[simp] theorem raiseFatal_cpu (op : Byte) (s : State) : (raiseFatal op s).cpu = { s.cpu with halt := true, haltOpcode := op, haltCyc := s.cpu.cyc } := rfl
@[simp] theorem raiseFatal_mem (op : Byte) (s : State) : (raiseFatal op s).mem = s.mem := rfl
@[simp] theorem raiseFatal_ppu (op : Byte) (s : State) : (raiseFatal op s).ppu = s.ppu := rfl
@[simp] theorem raiseFatal_pad (op : Byte) (s : State) : (raiseFatal op s).pad = s.pad := rfl
@[simp] theorem raiseFatal_inbox (op : Byte) (s : State) : (raiseFatal op s).inbox = s.inbox := rfl

@[simp] theorem ppuStep_cpu (s : State) : (ppuStep s).cpu = { s.cpu with iq := if s.ppu.tick.2 then s.cpu.iq ++ [.nmi] else s.cpu.iq } := rfl
@[simp] theorem ppuStep_mem (s : State) : (ppuStep s).mem = s.mem := rfl
@[simp] theorem ppuStep_ppu (s : State) : (ppuStep s).ppu = s.ppu.tick.1 := rfl
@[simp] theorem ppuStep_pad (s : State) : (ppuStep s).pad = s.pad := rfl
@[simp] theorem ppuStep_inbox (s : State) : (ppuStep s).inbox = s.inbox := rfl

/-! Updates of the CPU. -/

@[simp] theorem Cpu.setC_a (v : Bool) (c : Cpu) : (c.setC v).a = c.a := rfl
@[simp] theorem Cpu.setC_x (v : Bool) (c : Cpu) : (c.setC v).x = c.x := rfl
@[simp] theorem Cpu.setC_y (v : Bool) (c : Cpu) : (c.setC v).y = c.y := rfl
@[simp] theorem Cpu.setC_sp (v : Bool) (c : Cpu) : (c.setC v).sp = c.sp := rfl
@[simp] theorem Cpu.setC_p (v : Bool) (c : Cpu) : (c.setC v).p = putFlag maskC v c.p := rfl
@[simp] theorem Cpu.setC_pc (v : Bool) (c : Cpu) : (c.setC v).pc = c.pc := rfl
@[simp] theorem Cpu.setC_cyc (v : Bool) (c : Cpu) : (c.setC v).cyc = c.cyc := rfl
@[simp] theorem Cpu.setC_iq (v : Bool) (c : Cpu) : (c.setC v).iq = c.iq := rfl
@[simp] theorem Cpu.setC_halt (v : Bool) (c : Cpu) : (c.setC v).halt = c.halt := rfl
@[simp] theorem Cpu.setC_haltOpcode (v : Bool) (c : Cpu) : (c.setC v).haltOpcode = c.haltOpcode := rfl
@[simp] theorem Cpu.setC_haltCyc (v : Bool) (c : Cpu) : (c.setC v).haltCyc = c.haltCyc := rfl

@[simp] theorem Cpu.setZ_a (v : Bool) (c : Cpu) : (c.setZ v).a = c.a := rfl
@[simp] theorem Cpu.setZ_x (v : Bool) (c : Cpu) : (c.setZ v).x = c.x := rfl
@[simp] theorem Cpu.setZ_y (v : Bool) (c : Cpu) : (c.setZ v).y = c.y := rfl
@[simp] theorem Cpu.setZ_sp (v : Bool) (c : Cpu) : (c.setZ v).sp = c.sp := rfl
@[simp] theorem Cpu.setZ_p (v : Bool) (c : Cpu) : (c.setZ v).p = putFlag maskZ v c.p := rfl
@[simp] theorem Cpu.setZ_pc (v : Bool) (c : Cpu) : (c.setZ v).pc = c.pc := rfl
@[simp] theorem Cpu.setZ_cyc (v : Bool) (c : Cpu) : (c.setZ v).cyc = c.cyc := rfl
@[simp] theorem Cpu.setZ_iq (v : Bool) (c : Cpu) : (c.setZ v).iq = c.iq := rfl
@[simp] theorem Cpu.setZ_halt (v : Bool) (c : Cpu) : (c.setZ v).halt = c.halt := rfl
@[simp] theorem Cpu.setZ_haltOpcode (v : Bool) (c : Cpu) : (c.setZ v).haltOpcode = c.haltOpcode := rfl
@[simp] theorem Cpu.setZ_haltCyc (v : Bool) (c : Cpu) : (c.setZ v).haltCyc = c.haltCyc := rfl

@[simp] theorem Cpu.setI_a (v : Bool) (c : Cpu) : (c.setI v).a = c.a := rfl
@[simp] theorem Cpu.setI_x (v : Bool) (c : Cpu) : (c.setI v).x = c.x := rfl
@[simp] theorem Cpu.setI_y (v : Bool) (c : Cpu) : (c.setI v).y = c.y := rfl
@[simp] theorem Cpu.setI_sp (v : Bool) (c : Cpu) : (c.setI v).sp = c.sp := rfl
@[simp] theorem Cpu.setI_p (v : Bool) (c : Cpu) : (c.setI v).p = putFlag maskI v c.p := rfl
@[simp] theorem Cpu.setI_pc (v : Bool) (c : Cpu) : (c.setI v).pc = c.pc := rfl
@[simp] theorem Cpu.setI_cyc (v : Bool) (c : Cpu) : (c.setI v).cyc = c.cyc := rfl
@[simp] theorem Cpu.setI_iq (v : Bool) (c : Cpu) : (c.setI v).iq = c.iq := rfl
@[simp] theorem Cpu.setI_halt (v : Bool) (c : Cpu) : (c.setI v).halt = c.halt := rfl
@[simp] theorem Cpu.setI_haltOpcode (v : Bool) (c : Cpu) : (c.setI v).haltOpcode = c.haltOpcode := rfl
@[simp] theorem Cpu.setI_haltCyc (v : Bool) (c : Cpu) : (c.setI v).haltCyc = c.haltCyc := rfl

@[simp] theorem Cpu.setD_a (v : Bool) (c : Cpu) : (c.setD v).a = c.a := rfl
@[simp] theorem Cpu.setD_x (v : Bool) (c : Cpu) : (c.setD v).x = c.x := rfl
@[simp] theorem Cpu.setD_y (v : Bool) (c : Cpu) : (c.setD v).y = c.y := rfl
@[simp] theorem Cpu.setD_sp (v : Bool) (c : Cpu) : (c.setD v).sp = c.sp := rfl
@[simp] theorem Cpu.setD_p (v : Bool) (c : Cpu) : (c.setD v).p = putFlag maskD v c.p := rfl
@[simp] theorem Cpu.setD_pc (v : Bool) (c : Cpu) : (c.setD v).pc = c.pc := rfl
@[simp] theorem Cpu.setD_cyc (v : Bool) (c : Cpu) : (c.setD v).cyc = c.cyc := rfl
@[simp] theorem Cpu.setD_iq (v : Bool) (c : Cpu) : (c.setD v).iq = c.iq := rfl
@[simp] theorem Cpu.setD_halt (v : Bool) (c : Cpu) : (c.setD v).halt = c.halt := rfl
@[simp] theorem Cpu.setD_haltOpcode (v : Bool) (c : Cpu) : (c.setD v).haltOpcode = c.haltOpcode := rfl
@[simp] theorem Cpu.setD_haltCyc (v : Bool) (c : Cpu) : (c.setD v).haltCyc = c.haltCyc := rfl

@[simp] theorem Cpu.setV_a (v : Bool) (c : Cpu) : (c.setV v).a = c.a := rfl
@[simp] theorem Cpu.setV_x (v : Bool) (c : Cpu) : (c.setV v).x = c.x := rfl
@[simp] theorem Cpu.setV_y (v : Bool) (c : Cpu) : (c.setV v).y = c.y := rfl
@[simp] theorem Cpu.setV_sp (v : Bool) (c : Cpu) : (c.setV v).sp = c.sp := rfl
@[simp] theorem Cpu.setV_p (v : Bool) (c : Cpu) : (c.setV v).p = putFlag maskV v c.p := rfl
@[simp] theorem Cpu.setV_pc (v : Bool) (c : Cpu) : (c.setV v).pc = c.pc := rfl
@[simp] theorem Cpu.setV_cyc (v : Bool) (c : Cpu) : (c.setV v).cyc = c.cyc := rfl
@[simp] theorem Cpu.setV_iq (v : Bool) (c : Cpu) : (c.setV v).iq = c.iq := rfl
@[simp] theorem Cpu.setV_halt (v : Bool) (c : Cpu) : (c.setV v).halt = c.halt := rfl
@[simp] theorem Cpu.setV_haltOpcode (v : Bool) (c : Cpu) : (c.setV v).haltOpcode = c.haltOpcode := rfl
@[simp] theorem Cpu.setV_haltCyc (v : Bool) (c : Cpu) : (c.setV v).haltCyc = c.haltCyc := rfl

@[simp] theorem Cpu.setN_a (v : Bool) (c : Cpu) : (c.setN v).a = c.a := rfl
@[simp] theorem Cpu.setN_x (v : Bool) (c : Cpu) : (c.setN v).x = c.x := rfl
@[simp] theorem Cpu.setN_y (v : Bool) (c : Cpu) : (c.setN v).y = c.y := rfl
@[simp] theorem Cpu.setN_sp (v : Bool) (c : Cpu) : (c.setN v).sp = c.sp := rfl
@[simp] theorem Cpu.setN_p (v : Bool) (c : Cpu) : (c.setN v).p = putFlag maskN v c.p := rfl
@[simp] theorem Cpu.setN_pc (v : Bool) (c : Cpu) : (c.setN v).pc = c.pc := rfl
@[simp] theorem Cpu.setN_cyc (v : Bool) (c : Cpu) : (c.setN v).cyc = c.cyc := rfl
@[simp] theorem Cpu.setN_iq (v : Bool) (c : Cpu) : (c.setN v).iq = c.iq := rfl
@[simp] theorem Cpu.setN_halt (v : Bool) (c : Cpu) : (c.setN v).halt = c.halt := rfl
@[simp] theorem Cpu.setN_haltOpcode (v : Bool) (c : Cpu) : (c.setN v).haltOpcode = c.haltOpcode := rfl
@[simp] theorem Cpu.setN_haltCyc (v : Bool) (c : Cpu) : (c.setN v).haltCyc = c.haltCyc := rfl

@[simp] theorem Cpu.setZN_a (v : Byte) (c : Cpu) : (c.setZN v).a = c.a := rfl
@[simp] theorem Cpu.setZN_x (v : Byte) (c : Cpu) : (c.setZN v).x = c.x := rfl
@[simp] theorem Cpu.setZN_y (v : Byte) (c : Cpu) : (c.setZN v).y = c.y := rfl
@[simp] theorem Cpu.setZN_sp (v : Byte) (c : Cpu) : (c.setZN v).sp = c.sp := rfl
@[simp] theorem Cpu.setZN_p (v : Byte) (c : Cpu) : (c.setZN v).p = putFlag maskN (v.getLsbD 7) (putFlag maskZ (v == 0x00#8) c.p) := rfl
@[simp] theorem Cpu.setZN_pc (v : Byte) (c : Cpu) : (c.setZN v).pc = c.pc := rfl
@[simp] theorem Cpu.setZN_cyc (v : Byte) (c : Cpu) : (c.setZN v).cyc = c.cyc := rfl
@[simp] theorem Cpu.setZN_iq (v : Byte) (c : Cpu) : (c.setZN v).iq = c.iq := rfl
@[simp] theorem Cpu.setZN_halt (v : Byte) (c : Cpu) : (c.setZN v).halt = c.halt := rfl
@[simp] theorem Cpu.setZN_haltOpcode (v : Byte) (c : Cpu) : (c.setZN v).haltOpcode = c.haltOpcode := rfl
@[simp] theorem Cpu.setZN_haltCyc (v : Byte) (c : Cpu) : (c.setZN v).haltCyc = c.haltCyc := rfl

@[simp] theorem Cpu.adcCore_a (b vb : Byte) (c : Cpu) : (c.adcCore b vb).a = BitVec.ofNat 8 (nineBitSum c.a b c.flagC) := rfl
@[simp] theorem Cpu.adcCore_x (b vb : Byte) (c : Cpu) : (c.adcCore b vb).x = c.x := rfl
@[simp] theorem Cpu.adcCore_y (b vb : Byte) (c : Cpu) : (c.adcCore b vb).y = c.y := rfl
@[simp] theorem Cpu.adcCore_sp (b vb : Byte) (c : Cpu) : (c.adcCore b vb).sp = c.sp := rfl
@[simp] theorem Cpu.adcCore_pc (b vb : Byte) (c : Cpu) : (c.adcCore b vb).pc = c.pc := rfl
@[simp] theorem Cpu.adcCore_cyc (b vb : Byte) (c : Cpu) : (c.adcCore b vb).cyc = c.cyc := rfl
@[simp] theorem Cpu.adcCore_iq (b vb : Byte) (c : Cpu) : (c.adcCore b vb).iq = c.iq := rfl
@[simp] theorem Cpu.adcCore_halt (b vb : Byte) (c : Cpu) : (c.adcCore b vb).halt = c.halt := rfl
@[simp] theorem Cpu.adcCore_haltOpcode (b vb : Byte) (c : Cpu) : (c.adcCore b vb).haltOpcode = c.haltOpcode := rfl
@[simp] theorem Cpu.adcCore_haltCyc (b vb : Byte) (c : Cpu) : (c.adcCore b vb).haltCyc = c.haltCyc := rfl

@[simp] theorem Cpu.cmpCore_a (r m : Byte) (c : Cpu) : (c.cmpCore r m).a = c.a := rfl
@[simp] theorem Cpu.cmpCore_x (r m : Byte) (c : Cpu) : (c.cmpCore r m).x = c.x := rfl
@[simp] theorem Cpu.cmpCore_y (r m : Byte) (c : Cpu) : (c.cmpCore r m).y = c.y := rfl
@[simp] theorem Cpu.cmpCore_sp (r m : Byte) (c : Cpu) : (c.cmpCore r m).sp = c.sp := rfl
@[simp] theorem Cpu.cmpCore_pc (r m : Byte) (c : Cpu) : (c.cmpCore r m).pc = c.pc := rfl
@[simp] theorem Cpu.cmpCore_cyc (r m : Byte) (c : Cpu) : (c.cmpCore r m).cyc = c.cyc := rfl
@[simp] theorem Cpu.cmpCore_iq (r m : Byte) (c : Cpu) : (c.cmpCore r m).iq = c.iq := rfl
@[simp] theorem Cpu.cmpCore_halt (r m : Byte) (c : Cpu) : (c.cmpCore r m).halt = c.halt := rfl
@[simp] theorem Cpu.cmpCore_haltOpcode (r m : Byte) (c : Cpu) : (c.cmpCore r m).haltOpcode = c.haltOpcode := rfl
@[simp] theorem Cpu.cmpCore_haltCyc (r m : Byte) (c : Cpu) : (c.cmpCore r m).haltCyc = c.haltCyc := rfl

@[simp] theorem Cpu.bitTest_a (m : Byte) (c : Cpu) : (c.bitTest m).a = c.a := rfl
@[simp] theorem Cpu.bitTest_x (m : Byte) (c : Cpu) : (c.bitTest m).x = c.x := rfl
@[simp] theorem Cpu.bitTest_y (m : Byte) (c : Cpu) : (c.bitTest m).y = c.y := rfl
@[simp] theorem Cpu.bitTest_sp (m : Byte) (c : Cpu) : (c.bitTest m).sp = c.sp := rfl
@[simp] theorem Cpu.bitTest_pc (m : Byte) (c : Cpu) : (c.bitTest m).pc = c.pc := rfl
@[simp] theorem Cpu.bitTest_cyc (m : Byte) (c : Cpu) : (c.bitTest m).cyc = c.cyc := rfl
@[simp] theorem Cpu.bitTest_iq (m : Byte) (c : Cpu) : (c.bitTest m).iq = c.iq := rfl
@[simp] theorem Cpu.bitTest_halt (m : Byte) (c : Cpu) : (c.bitTest m).halt = c.halt := rfl
@[simp] theorem Cpu.bitTest_haltOpcode (m : Byte) (c : Cpu) : (c.bitTest m).haltOpcode = c.haltOpcode := rfl
@[simp] theorem Cpu.bitTest_haltCyc (m : Byte) (c : Cpu) : (c.bitTest m).haltCyc = c.haltCyc := rfl

/-! Updates of the PPU. -/

@[simp] theorem Ppu.onWrite2000_sl (d : Byte) (p : Ppu) : (p.onWrite2000 d).sl = p.sl := rfl
@[simp] theorem Ppu.onWrite2000_dot (d : Byte) (p : Ppu) : (p.onWrite2000 d).dot = p.dot := rfl
@[simp] theorem Ppu.onWrite2000_v (d : Byte) (p : Ppu) : (p.onWrite2000 d).v = p.v := rfl
@[simp] theorem Ppu.onWrite2000_t (d : Byte) (p : Ppu) : (p.onWrite2000 d).t = p.t := rfl
@[simp] theorem Ppu.onWrite2000_fx (d : Byte) (p : Ppu) : (p.onWrite2000 d).fx = p.fx := rfl
@[simp] theorem Ppu.onWrite2000_w (d : Byte) (p : Ppu) : (p.onWrite2000 d).w = p.w := rfl
@[simp] theorem Ppu.onWrite2000_nmiOcc (d : Byte) (p : Ppu) : (p.onWrite2000 d).nmiOcc = p.nmiOcc := rfl
@[simp] theorem Ppu.onWrite2000_nmiOut (d : Byte) (p : Ppu) : (p.onWrite2000 d).nmiOut = d.getLsbD 7 := rfl
@[simp] theorem Ppu.onWrite2000_rdbuf (d : Byte) (p : Ppu) : (p.onWrite2000 d).rdbuf = p.rdbuf := rfl
@[simp] theorem Ppu.onWrite2000_ctrl (d : Byte) (p : Ppu) : (p.onWrite2000 d).ctrl = d := rfl
@[simp] theorem Ppu.onWrite2000_status (d : Byte) (p : Ppu) : (p.onWrite2000 d).status = p.status := rfl
@[simp] theorem Ppu.onWrite2000_vram (d : Byte) (p : Ppu) : (p.onWrite2000 d).vram = p.vram := rfl
@[simp] theorem Ppu.onWrite2000_fb (d : Byte) (p : Ppu) : (p.onWrite2000 d).fb = p.fb := rfl
@[simp] theorem Ppu.onWrite2000_framesRaised (d : Byte) (p : Ppu) : (p.onWrite2000 d).framesRaised = p.framesRaised := rfl

@[simp] theorem Ppu.onRead2002_sl (p : Ppu) : (p.onRead2002.2).sl = p.sl := rfl
@[simp] theorem Ppu.onRead2002_dot (p : Ppu) : (p.onRead2002.2).dot = p.dot := rfl
@[simp] theorem Ppu.onRead2002_v (p : Ppu) : (p.onRead2002.2).v = p.v := rfl
@[simp] theorem Ppu.onRead2002_t (p : Ppu) : (p.onRead2002.2).t = p.t := rfl
@[simp] theorem Ppu.onRead2002_fx (p : Ppu) : (p.onRead2002.2).fx = p.fx := rfl
@[simp] theorem Ppu.onRead2002_w (p : Ppu) : (p.onRead2002.2).w = false := rfl
@[simp] theorem Ppu.onRead2002_nmiOcc (p : Ppu) : (p.onRead2002.2).nmiOcc = false := rfl
@[simp] theorem Ppu.onRead2002_nmiOut (p : Ppu) : (p.onRead2002.2).nmiOut = p.nmiOut := rfl
@[simp] theorem Ppu.onRead2002_rdbuf (p : Ppu) : (p.onRead2002.2).rdbuf = p.rdbuf := rfl
@[simp] theorem Ppu.onRead2002_ctrl (p : Ppu) : (p.onRead2002.2).ctrl = p.ctrl := rfl
@[simp] theorem Ppu.onRead2002_status (p : Ppu) : (p.onRead2002.2).status = p.status &&& ~~~vblankMask := rfl
@[simp] theorem Ppu.onRead2002_vram (p : Ppu) : (p.onRead2002.2).vram = p.vram := rfl
@[simp] theorem Ppu.onRead2002_fb (p : Ppu) : (p.onRead2002.2).fb = p.fb := rfl
@[simp] theorem Ppu.onRead2002_framesRaised (p : Ppu) : (p.onRead2002.2).framesRaised = p.framesRaised := rfl

@[simp] theorem Ppu.onWrite2006_sl (d : Byte) (p : Ppu) : (p.onWrite2006 d).sl = p.sl := by
  unfold Ppu.onWrite2006; split <;> simp_all
@[simp] theorem Ppu.onWrite2006_dot (d : Byte) (p : Ppu) : (p.onWrite2006 d).dot = p.dot := by
  unfold Ppu.onWrite2006; split <;> simp_all
@[simp] theorem Ppu.onWrite2006_fx (d : Byte) (p : Ppu) : (p.onWrite2006 d).fx = p.fx := by
  unfold Ppu.onWrite2006; split <;> simp_all
@[simp] theorem Ppu.onWrite2006_w (d : Byte) (p : Ppu) : (p.onWrite2006 d).w = !p.w := by
  unfold Ppu.onWrite2006; split <;> simp_all
@[simp] theorem Ppu.onWrite2006_nmiOcc (d : Byte) (p : Ppu) : (p.onWrite2006 d).nmiOcc = p.nmiOcc := by
  unfold Ppu.onWrite2006; split <;> simp_all
@[simp] theorem Ppu.onWrite2006_nmiOut (d : Byte) (p : Ppu) : (p.onWrite2006 d).nmiOut = p.nmiOut := by
  unfold Ppu.onWrite2006; split <;> simp_all
@[simp] theorem Ppu.onWrite2006_rdbuf (d : Byte) (p : Ppu) : (p.onWrite2006 d).rdbuf = p.rdbuf := by
  unfold Ppu.onWrite2006; split <;> simp_all
@[simp] theorem Ppu.onWrite2006_ctrl (d : Byte) (p : Ppu) : (p.onWrite2006 d).ctrl = p.ctrl := by
  unfold Ppu.onWrite2006; split <;> simp_all
@[simp] theorem Ppu.onWrite2006_status (d : Byte) (p : Ppu) : (p.onWrite2006 d).status = p.status := by
  unfold Ppu.onWrite2006; split <;> simp_all
@[simp] theorem Ppu.onWrite2006_vram (d : Byte) (p : Ppu) : (p.onWrite2006 d).vram = p.vram := by
  unfold Ppu.onWrite2006; split <;> simp_all
@[simp] theorem Ppu.onWrite2006_fb (d : Byte) (p : Ppu) : (p.onWrite2006 d).fb = p.fb := by
  unfold Ppu.onWrite2006; split <;> simp_all
@[simp] theorem Ppu.onWrite2006_framesRaised (d : Byte) (p : Ppu) : (p.onWrite2006 d).framesRaised = p.framesRaised := by
  unfold Ppu.onWrite2006; split <;> simp_all

@[simp] theorem Ppu.onRead2007_sl (p : Ppu) : (p.onRead2007.2).sl = p.sl := rfl
@[simp] theorem Ppu.onRead2007_dot (p : Ppu) : (p.onRead2007.2).dot = p.dot := rfl
@[simp] theorem Ppu.onRead2007_v (p : Ppu) : (p.onRead2007.2).v = p.v + p.inc := rfl
@[simp] theorem Ppu.onRead2007_t (p : Ppu) : (p.onRead2007.2).t = p.t := rfl
@[simp] theorem Ppu.onRead2007_fx (p : Ppu) : (p.onRead2007.2).fx = p.fx := rfl
@[simp] theorem Ppu.onRead2007_w (p : Ppu) : (p.onRead2007.2).w = p.w := rfl
@[simp] theorem Ppu.onRead2007_nmiOcc (p : Ppu) : (p.onRead2007.2).nmiOcc = p.nmiOcc := rfl
@[simp] theorem Ppu.onRead2007_nmiOut (p : Ppu) : (p.onRead2007.2).nmiOut = p.nmiOut := rfl
@[simp] theorem Ppu.onRead2007_rdbuf (p : Ppu) : (p.onRead2007.2).rdbuf = p.vram.read p.vramIndex := rfl
@[simp] theorem Ppu.onRead2007_ctrl (p : Ppu) : (p.onRead2007.2).ctrl = p.ctrl := rfl
@[simp] theorem Ppu.onRead2007_status (p : Ppu) : (p.onRead2007.2).status = p.status := rfl
@[simp] theorem Ppu.onRead2007_vram (p : Ppu) : (p.onRead2007.2).vram = p.vram := rfl
@[simp] theorem Ppu.onRead2007_fb (p : Ppu) : (p.onRead2007.2).fb = p.fb := rfl
@[simp] theorem Ppu.onRead2007_framesRaised (p : Ppu) : (p.onRead2007.2).framesRaised = p.framesRaised := rfl

@[simp] theorem Ppu.onWrite2007_sl (d : Byte) (p : Ppu) : (p.onWrite2007 d).sl = p.sl := rfl
@[simp] theorem Ppu.onWrite2007_dot (d : Byte) (p : Ppu) : (p.onWrite2007 d).dot = p.dot := rfl
@[simp] theorem Ppu.onWrite2007_v (d : Byte) (p : Ppu) : (p.onWrite2007 d).v = p.v + p.inc := rfl
@[simp] theorem Ppu.onWrite2007_t (d : Byte) (p : Ppu) : (p.onWrite2007 d).t = p.t := rfl
@[simp] theorem Ppu.onWrite2007_fx (d : Byte) (p : Ppu) : (p.onWrite2007 d).fx = p.fx := rfl
@[simp] theorem Ppu.onWrite2007_w (d : Byte) (p : Ppu) : (p.onWrite2007 d).w = p.w := rfl
@[simp] theorem Ppu.onWrite2007_nmiOcc (d : Byte) (p : Ppu) : (p.onWrite2007 d).nmiOcc = p.nmiOcc := rfl
@[simp] theorem Ppu.onWrite2007_nmiOut (d : Byte) (p : Ppu) : (p.onWrite2007 d).nmiOut = p.nmiOut := rfl
@[simp] theorem Ppu.onWrite2007_rdbuf (d : Byte) (p : Ppu) : (p.onWrite2007 d).rdbuf = p.rdbuf := rfl
@[simp] theorem Ppu.onWrite2007_ctrl (d : Byte) (p : Ppu) : (p.onWrite2007 d).ctrl = p.ctrl := rfl
@[simp] theorem Ppu.onWrite2007_status (d : Byte) (p : Ppu) : (p.onWrite2007 d).status = p.status := rfl
@[simp] theorem Ppu.onWrite2007_vram (d : Byte) (p : Ppu) : (p.onWrite2007 d).vram = p.vram.write p.vramIndex d := rfl
@[simp] theorem Ppu.onWrite2007_fb (d : Byte) (p : Ppu) : (p.onWrite2007 d).fb = p.fb := rfl
@[simp] theorem Ppu.onWrite2007_framesRaised (d : Byte) (p : Ppu) : (p.onWrite2007 d).framesRaised = p.framesRaised := rfl

@[simp] theorem Ppu.events_sl (p : Ppu) : (p.events).sl = p.sl := rfl
@[simp] theorem Ppu.events_dot (p : Ppu) : (p.events).dot = p.dot := rfl
@[simp] theorem Ppu.events_v (p : Ppu) : (p.events).v = p.v := rfl
@[simp] theorem Ppu.events_t (p : Ppu) : (p.events).t = p.t := rfl
@[simp] theorem Ppu.events_fx (p : Ppu) : (p.events).fx = p.fx := rfl
@[simp] theorem Ppu.events_w (p : Ppu) : (p.events).w = p.w := rfl
@[simp] theorem Ppu.events_nmiOut (p : Ppu) : (p.events).nmiOut = p.nmiOut := rfl
@[simp] theorem Ppu.events_rdbuf (p : Ppu) : (p.events).rdbuf = p.rdbuf := rfl
@[simp] theorem Ppu.events_ctrl (p : Ppu) : (p.events).ctrl = p.ctrl := rfl
@[simp] theorem Ppu.events_vram (p : Ppu) : (p.events).vram = p.vram := rfl
@[simp] theorem Ppu.events_fb (p : Ppu) : (p.events).fb = if p.isAt 0 0 then p.renderFrame else p.fb := rfl
@[simp] theorem Ppu.events_framesRaised (p : Ppu) : (p.events).framesRaised = if p.isAt 0 0 then p.framesRaised + 1 else p.framesRaised := rfl

@[simp] theorem Ppu.disarm_sl (p : Ppu) : (p.disarm).sl = p.sl := rfl
@[simp] theorem Ppu.disarm_dot (p : Ppu) : (p.disarm).dot = p.dot := rfl
@[simp] theorem Ppu.disarm_v (p : Ppu) : (p.disarm).v = p.v := rfl
@[simp] theorem Ppu.disarm_t (p : Ppu) : (p.disarm).t = p.t := rfl
@[simp] theorem Ppu.disarm_fx (p : Ppu) : (p.disarm).fx = p.fx := rfl
@[simp] theorem Ppu.disarm_w (p : Ppu) : (p.disarm).w = p.w := rfl
@[simp] theorem Ppu.disarm_nmiOcc (p : Ppu) : (p.disarm).nmiOcc = p.nmiOcc := rfl
@[simp] theorem Ppu.disarm_nmiOut (p : Ppu) : (p.disarm).nmiOut = if p.nmiDue then false else p.nmiOut := rfl
@[simp] theorem Ppu.disarm_rdbuf (p : Ppu) : (p.disarm).rdbuf = p.rdbuf := rfl
@[simp] theorem Ppu.disarm_ctrl (p : Ppu) : (p.disarm).ctrl = p.ctrl := rfl
@[simp] theorem Ppu.disarm_status (p : Ppu) : (p.disarm).status = p.status := rfl
@[simp] theorem Ppu.disarm_vram (p : Ppu) : (p.disarm).vram = p.vram := rfl
@[simp] theorem Ppu.disarm_fb (p : Ppu) : (p.disarm).fb = p.fb := rfl
@[simp] theorem Ppu.disarm_framesRaised (p : Ppu) : (p.disarm).framesRaised = p.framesRaised := rfl

@[simp] theorem Ppu.advance_sl (p : Ppu) : (p.advance).sl = if config.lastDot ≤ p.dot then (if p.sl = config.lastLine then 0 else p.sl + 1) else p.sl := rfl
@[simp] theorem Ppu.advance_dot (p : Ppu) : (p.advance).dot = if config.lastDot ≤ p.dot then 0 else p.dot + 1 := rfl
@[simp] theorem Ppu.advance_v (p : Ppu) : (p.advance).v = p.v := rfl
@[simp] theorem Ppu.advance_t (p : Ppu) : (p.advance).t = p.t := rfl
@[simp] theorem Ppu.advance_fx (p : Ppu) : (p.advance).fx = p.fx := rfl
@[simp] theorem Ppu.advance_w (p : Ppu) : (p.advance).w = p.w := rfl
@[simp] theorem Ppu.advance_nmiOcc (p : Ppu) : (p.advance).nmiOcc = p.nmiOcc := rfl
@[simp] theorem Ppu.advance_nmiOut (p : Ppu) : (p.advance).nmiOut = p.nmiOut := rfl
@[simp] theorem Ppu.advance_rdbuf (p : Ppu) : (p.advance).rdbuf = p.rdbuf := rfl
@[simp] theorem Ppu.advance_ctrl (p : Ppu) : (p.advance).ctrl = p.ctrl := rfl
@[simp] theorem Ppu.advance_status (p : Ppu) : (p.advance).status = p.status := rfl
@[simp] theorem Ppu.advance_vram (p : Ppu) : (p.advance).vram = p.vram := rfl
@[simp] theorem Ppu.advance_fb (p : Ppu) : (p.advance).fb = p.fb := rfl
@[simp] theorem Ppu.advance_framesRaised (p : Ppu) : (p.advance).framesRaised = p.framesRaised := rfl

/-! Updates of the input device. -/

@[simp] theorem Pad.onWrite4016_btn (d : Byte) (q : Pad) : (q.onWrite4016 d).btn = q.btn := rfl
@[simp] theorem Pad.onWrite4016_sr (d : Byte) (q : Pad) : (q.onWrite4016 d).sr = if d.getLsbD 0 then q.btn else q.sr := rfl
@[simp] theorem Pad.onWrite4016_latch (d : Byte) (q : Pad) : (q.onWrite4016 d).latch = d.getLsbD 0 := rfl

@[simp] theorem Pad.onRead4016_btn (q : Pad) : (q.onRead4016.2).btn = q.btn := rfl
@[simp] theorem Pad.onRead4016_sr (q : Pad) : (q.onRead4016.2).sr = (q.sr >>> 1) ||| 0x80#8 := rfl
@[simp] theorem Pad.onRead4016_latch (q : Pad) : (q.onRead4016.2).latch = q.latch := rfl

@[simp] theorem Pad.reseed_btn (q : Pad) : q.reseed.btn = q.btn := by unfold Pad.reseed; split <;> rfl
@[simp] theorem Pad.reseed_latch (q : Pad) : q.reseed.latch = q.latch := by unfold Pad.reseed; split <;> rfl
@[simp] theorem Pad.reseed_sr (q : Pad) : q.reseed.sr = if q.latch then q.btn else q.sr := by
  unfold Pad.reseed; split <;> simp_all

/-! Power-on. -/

@[simp] theorem State.powerOn_mem (mem vram : Memory) : (State.powerOn mem vram).mem = mem := by rw [State.powerOn]
@[simp] theorem State.powerOn_vram (mem vram : Memory) : (State.powerOn mem vram).ppu.vram = vram := by rw [State.powerOn]
@[simp] theorem State.powerOn_inbox (mem vram : Memory) : (State.powerOn mem vram).inbox = [] := by rw [State.powerOn]

end Sys2Proof.Machine
end

