-- ==== Sys2Proof/Laws/Flags.lean ====
section
/-! SUPPORT. The laws of the flags: what `putFlag` does to each bit, what `setZN` leaves, and the status byte pushed and
pulled. -/

namespace Sys2Proof.Machine

/-- Bit `n` of `P` after a flag write: the bits of the mask take the value, the others are kept. -/
theorem putFlag_bit (mask : Byte) (v : Bool) (p : Byte) (n : Nat) (hn : n < 8) :
    (putFlag mask v p).getLsbD n = if mask.getLsbD n then v else p.getLsbD n := by
  rw [BitVec.getLsbD_eq_getElem hn, BitVec.getLsbD_eq_getElem hn, BitVec.getLsbD_eq_getElem hn]
  cases v <;> cases hm : mask[n] <;> simp [putFlag, hm]

/-- A flag write under `mask` keeps every bit outside a wider mask. -/
theorem putFlag_kept {mask wide : Byte} (h : mask &&& ~~~wide = 0#8) (v : Bool) (p : Byte) :
    putFlag mask v p &&& ~~~wide = p &&& ~~~wide := by
  ext n hn
  have hb := congrArg (fun b => BitVec.getLsbD b n) h
  simp only [BitVec.getLsbD_and, BitVec.getLsbD_not, BitVec.getLsbD_zero, hn, decide_true, Bool.true_and] at hb
  simp only [← BitVec.getLsbD_eq_getElem, BitVec.getLsbD_and, BitVec.getLsbD_not, hn, decide_true, Bool.true_and,
    putFlag_bit mask v p n hn]
  cases hw : wide.getLsbD n <;> cases hm : mask.getLsbD n <;> simp_all

theorem FlagsKept.refl (mask : Byte) (c : Cpu) : FlagsKept mask c c := rfl

theorem FlagsKept.trans {mask : Byte} {c c' c'' : Cpu} (h : FlagsKept mask c c') (h' : FlagsKept mask c' c'') :
    FlagsKept mask c c'' :=
  Eq.trans h' h

/-- `setZN` writes Z and N only (R161). -/
theorem Cpu.setZN_kept (v : Byte) (c : Cpu) : FlagsKept 0x82#8 c (c.setZN v) := by
  unfold FlagsKept
  rw [Cpu.setZN_p, putFlag_kept (by decide), putFlag_kept (by decide)]

/-- `setZN` leaves the flags of its argument (R161). -/
theorem Cpu.setZN_result (v : Byte) (c : Cpu) : ResultFlags v (c.setZN v) := by
  constructor
  · simp only [Cpu.flagZ, Cpu.setZN_p, putFlag_bit _ _ _ 1 (by decide)]
    simp [maskZ, maskN, beq_eq_decide]
  · simp only [Cpu.flagN, Cpu.setZN_p, putFlag_bit _ _ _ 7 (by decide)]
    simp [maskN]

/-- A bit outside the written mask reads as it did. -/
theorem FlagsKept.bit {mask : Byte} {c c' : Cpu} (h : FlagsKept mask c c') {n : Nat} (hn : n < 8)
    (hm : mask.getLsbD n = false) : c'.p.getLsbD n = c.p.getLsbD n := by
  rw [BitVec.getLsbD_eq_getElem hn] at hm ⊢
  rw [BitVec.getLsbD_eq_getElem hn]
  have := congrArg (fun b => BitVec.getLsbD b n) h
  simpa [hn, hm] using this

/-- The pushed byte has Break and Expansion set and the other bits of `P` (R30). -/
theorem pushedStatus_bits : ∀ p : Byte, pushedStatus p &&& 0x30#8 = 0x30#8 ∧ pushedStatus p &&& 0xCF#8 = p &&& 0xCF#8 := by
  decide

/-- The pulled byte has Expansion set and Break clear and the other bits of the byte on the stack (R30). -/
theorem pulledStatus_bits : ∀ v : Byte, pulledStatus v &&& 0x30#8 = 0x20#8 ∧ pulledStatus v &&& 0xCF#8 = v &&& 0xCF#8 := by
  decide

/-- The document's round trip (R30). -/
theorem pulled_pushed : ∀ p : Byte, pulledStatus (pushedStatus p) = (p &&& 0xEF#8) ||| 0x20#8 := by decide

/-- The carry of the 9-bit sum, as a bit (R164). -/
theorem nineBitSum_lt (u v : Byte) (b : Bool) : nineBitSum u v b < 512 := by
  have := u.isLt; have := v.isLt; have := b.toNat_lt
  unfold nineBitSum; omega

end Sys2Proof.Machine
end

