-- ==== Sys2Proof/Laws/Memory.lean ====
section
/-! SUPPORT. The laws of byte arrays: a read after a write, and every operation keeps the canonical form. -/

namespace Sys2Proof.Machine

@[simp] theorem Memory.read_nil (a : Nat) : read [] a = 0x00#8 := rfl

theorem Memory.read_cons (k : Nat) (b : Byte) (rest : Memory) (a : Nat) :
    read ((k, b) :: rest) a = if k = a then b else read rest a := rfl

/-- An erased address reads as unlisted, and every other address as before. -/
theorem Memory.read_erase (m : Memory) (a a' : Nat) :
    read (erase m a) a' = if a = a' then unlisted else read m a' := by
  induction m with
  | nil => simp [erase, unlisted]
  | cons c rest ih =>
    obtain ⟨k, b⟩ := c
    by_cases hk : k = a <;> by_cases ha : a = a' <;> by_cases hk' : k = a' <;> simp_all [erase, read_cons]

/-- Reading an array after a write of one byte. -/
theorem Memory.read_write (m : Memory) (a a' : Nat) (v : Byte) :
    read (write m a v) a' = if a = a' then v else read m a' := by
  induction m with
  | nil => by_cases hv : v = unlisted <;> by_cases ha : a = a' <;> simp_all [write, read_cons, unlisted]
  | cons c rest ih =>
    obtain ⟨k, b⟩ := c
    by_cases hlt : k < a
    · simp only [write, hlt, if_true, read_cons, ih]
      by_cases hk : k = a'
      · simp [hk, show a ≠ a' by omega]
      · simp [hk]
    · by_cases hv : v = unlisted
      · simp only [write, hlt, if_false, hv, if_true, read_erase]
      · rw [write, if_neg hlt, if_neg hv]
        by_cases hk : k = a <;> by_cases ha : a = a' <;> simp_all [read_cons]

@[simp] theorem Memory.read_write_same (m : Memory) (a : Nat) (v : Byte) : read (write m a v) a = v := by
  simp [read_write]

@[simp] theorem Memory.read_write_ne (m : Memory) {a a' : Nat} (h : a ≠ a') (v : Byte) :
    read (write m a v) a' = read m a' := by
  simp [read_write, h]

theorem Memory.wfFrom_cons (lo size k : Nat) (b : Byte) (rest : Memory) :
    wfFrom lo size ((k, b) :: rest) = true ↔ lo ≤ k ∧ k < size ∧ b ≠ unlisted ∧ wfFrom (k + 1) size rest = true := by
  simp [wfFrom, and_assoc]

theorem Memory.wfFrom_mono {lo lo' size : Nat} (h : lo' ≤ lo) {m : Memory} (hm : wfFrom lo size m = true) :
    wfFrom lo' size m = true := by
  cases m with
  | nil => rfl
  | cons c rest =>
    obtain ⟨k, b⟩ := c
    rw [wfFrom_cons] at hm ⊢
    exact ⟨by omega, hm.2⟩

/-- Erasing keeps the canonical form. -/
theorem Memory.wfFrom_erase {lo size : Nat} {m : Memory} (a : Nat) (hm : wfFrom lo size m = true) :
    wfFrom lo size (erase m a) = true := by
  induction m generalizing lo with
  | nil => rfl
  | cons c rest ih =>
    obtain ⟨k, b⟩ := c
    rw [wfFrom_cons] at hm
    by_cases hk : k = a
    · simpa [erase, hk] using ih (wfFrom_mono (by omega) hm.2.2.2)
    · simpa [erase, hk, wfFrom_cons] using ⟨hm.1, hm.2.1, hm.2.2.1, ih hm.2.2.2⟩

/-- A write inside the array keeps the canonical form from `lo` on. -/
theorem Memory.wfFrom_write {lo size a : Nat} {m : Memory} (v : Byte) (hlo : lo ≤ a) (ha : a < size)
    (hm : wfFrom lo size m = true) : wfFrom lo size (write m a v) = true := by
  induction m generalizing lo with
  | nil => by_cases hv : v = unlisted <;> simp_all [write, wfFrom]
  | cons c rest ih =>
    obtain ⟨k, b⟩ := c
    have hm' := hm
    rw [wfFrom_cons] at hm
    obtain ⟨h1, h2, h3, h4⟩ := hm
    by_cases hlt : k < a
    · simp only [write, hlt, if_true, wfFrom_cons]
      exact ⟨h1, h2, h3, ih (by omega) h4⟩
    · by_cases hv : v = unlisted
      · simpa [write, hlt, hv] using wfFrom_erase a hm'
      · by_cases hk : k = a
        · subst hk
          simpa [write, hv, wfFrom_cons] using ⟨h1, h2, h4⟩
        · simp only [write, hlt, if_false, hv, hk, wfFrom_cons]
          exact ⟨hlo, ha, hv, by omega, h2, h3, h4⟩

/-- A write inside the array keeps the canonical form. -/
theorem Memory.wf_write {size a : Nat} {m : Memory} (v : Byte) (ha : a < size) (hm : m.wf size = true) :
    (m.write a v).wf size = true :=
  wfFrom_write v (Nat.zero_le a) ha hm

/-- Writes inside the array keep the canonical form. -/
theorem Memory.wf_writeList {size : Nat} (l : List (Nat × Byte)) {m : Memory} (hl : ∀ c ∈ l, c.1 < size)
    (hm : m.wf size = true) : (m.writeList l).wf size = true := by
  induction l generalizing m with
  | nil => exact hm
  | cons c rest ih =>
    exact ih (fun d hd => hl d (List.mem_cons_of_mem _ hd)) (wf_write c.2 (hl c List.mem_cons_self) hm)

@[simp] theorem Memory.wf_nil (size : Nat) : Memory.wf [] size = true := rfl

/-- An address below every entry reads as unlisted. -/
theorem Memory.read_of_wfFrom {lo size a : Nat} {m : Memory} (h : a < lo) (hm : wfFrom lo size m = true) :
    m.read a = unlisted := by
  induction m generalizing lo with
  | nil => rfl
  | cons c rest ih =>
    obtain ⟨k, b⟩ := c
    rw [wfFrom_cons] at hm
    rw [read_cons, if_neg (by omega)]
    exact ih (by omega) hm.2.2.2

/-- Two arrays in canonical form that read alike are equal. -/
theorem Memory.ext_of_wfFrom {lo size : Nat} {m m' : Memory} (hm : wfFrom lo size m = true) (hm' : wfFrom lo size m' = true)
    (h : ∀ a, m.read a = m'.read a) : m = m' := by
  induction m generalizing m' lo with
  | nil =>
    cases m' with
    | nil => rfl
    | cons c rest =>
      obtain ⟨k, b⟩ := c
      have := h k
      rw [wfFrom_cons] at hm'
      simp [read_cons] at this
      exact absurd this.symm hm'.2.2.1
  | cons c rest ih =>
    obtain ⟨k, b⟩ := c
    cases m' with
    | nil =>
      have := h k
      rw [wfFrom_cons] at hm
      simp [read_cons] at this
      exact absurd this hm.2.2.1
    | cons c' rest' =>
      obtain ⟨k', b'⟩ := c'
      rw [wfFrom_cons] at hm hm'
      obtain ⟨h1, h2, h3, h4⟩ := hm
      obtain ⟨h1', h2', h3', h4'⟩ := hm'
      have hr : ∀ a, a < k + 1 → read rest a = unlisted := fun a ha => read_of_wfFrom ha h4
      have hr' : ∀ a, a < k' + 1 → read rest' a = unlisted := fun a ha => read_of_wfFrom ha h4'
      have hkk : k = k' := by
        rcases lt_trichotomy k k' with hlt | heq | hgt
        · have := h k
          rw [read_cons, read_cons, if_pos rfl, if_neg (by omega), hr' k (by omega)] at this
          exact absurd this h3
        · exact heq
        · have := h k'
          rw [read_cons, read_cons, if_pos rfl, if_neg (by omega), hr k' (by omega)] at this
          exact absurd this.symm h3'
      subst hkk
      have hbb : b = b' := by simpa [read_cons] using h k
      subst hbb
      rw [ih h4 h4' fun a => ?_]
      by_cases hka : k = a
      · subst hka
        rw [hr k (by omega), hr' k (by omega)]
      · simpa [read_cons, hka] using h a

/-- Equal arrays are equal data: two arrays in canonical form that read alike at every address are the same list. -/
theorem Memory.ext_of_wf {size : Nat} {m m' : Memory} (hm : m.wf size = true) (hm' : m'.wf size = true)
    (h : ∀ a, m.read a = m'.read a) : m = m' :=
  ext_of_wfFrom hm hm' h

end Sys2Proof.Machine
end

