-- ==== Sys2Proof/Laws/Ops.lean ====
section
/-! SUPPORT. One lemma or a few for each shared operation, saying once what it can do: the bus, the stack, the entry to and
the return from an interrupt, the operand forms. -/

namespace Sys2Proof.Machine

/-! The bus. -/

/-- A read of an address with no hook returns the byte of `MEM` and changes nothing (R341). -/
theorem memRead_plain {a : Word} (s : State) (h : liveRead a = false) : memRead a s = (s.peek a, s) := by
  simp only [liveRead, Bool.or_eq_false_iff, beq_eq_false_iff_ne, ne_eq] at h
  simp [memRead, h]

@[simp] theorem memRead_cpu (a : Word) (s : State) : (memRead a s).2.cpu = s.cpu := by
  unfold memRead; split_ifs <;> rfl

@[simp] theorem memRead_mem (a : Word) (s : State) : (memRead a s).2.mem = s.mem := by
  unfold memRead; split_ifs <;> rfl

@[simp] theorem memRead_inbox (a : Word) (s : State) : (memRead a s).2.inbox = s.inbox := by
  unfold memRead; split_ifs <;> rfl

/-- What a read can do to the PPU: nothing, or one of its two read hooks (R341). -/
theorem memRead_ppu (a : Word) (s : State) :
    (memRead a s).2.ppu = s.ppu ∨ (memRead a s).2.ppu = s.ppu.onRead2002.2 ∨ (memRead a s).2.ppu = s.ppu.onRead2007.2 := by
  unfold memRead; split_ifs <;> simp

/-- What a read can do to the input device: nothing, or its read hook (R341). -/
theorem memRead_pad (a : Word) (s : State) :
    (memRead a s).2.pad = s.pad ∨ (memRead a s).2.pad = s.pad.onRead4016.2 := by
  unfold memRead; split_ifs <;> simp

@[simp] theorem writeHook_cpu (a : Word) (v : Byte) (s : State) : (writeHook a v s).cpu = s.cpu := by
  unfold writeHook; split_ifs <;> rfl

@[simp] theorem writeHook_mem (a : Word) (v : Byte) (s : State) : (writeHook a v s).mem = s.mem := by
  unfold writeHook; split_ifs <;> rfl

@[simp] theorem writeHook_inbox (a : Word) (v : Byte) (s : State) : (writeHook a v s).inbox = s.inbox := by
  unfold writeHook; split_ifs <;> rfl

@[simp] theorem memWrite_cpu (a : Word) (v : Byte) (s : State) : (memWrite a v s).cpu = s.cpu := by
  simp [memWrite]

@[simp] theorem memWrite_mem (a : Word) (v : Byte) (s : State) : (memWrite a v s).mem = s.mem.write a.toNat v := by
  simp [memWrite]

@[simp] theorem memWrite_inbox (a : Word) (v : Byte) (s : State) : (memWrite a v s).inbox = s.inbox := by
  simp [memWrite]

/-- What a write can do to the PPU: nothing, or one of its three write hooks (R342). -/
theorem memWrite_ppu (a : Word) (v : Byte) (s : State) :
    (memWrite a v s).ppu = s.ppu ∨ (memWrite a v s).ppu = s.ppu.onWrite2000 v ∨
    (memWrite a v s).ppu = s.ppu.onWrite2006 v ∨ (memWrite a v s).ppu = s.ppu.onWrite2007 v := by
  unfold memWrite writeHook; split_ifs <;> simp

/-! The stack. -/

/-- The stack lies in page one, where no address is live (R163). -/
theorem stackAddr_not_live : ∀ sp : Byte, liveRead (stackAddr sp) = false := by decide

theorem stackAddr_not_hooked : ∀ sp : Byte, stackAddr sp ≠ 0x2000#16 ∧ stackAddr sp ≠ 0x2006#16 ∧
    stackAddr sp ≠ 0x2007#16 ∧ stackAddr sp ≠ 0x4016#16 := by decide

theorem stackAddr_inj : ∀ u v : Byte, stackAddr u = stackAddr v → u = v := by
  intro u v h
  have := congrArg loByte h
  have key : ∀ w : Byte, loByte (stackAddr w) = w := by decide
  rwa [key, key] at this

/-- A push stores one byte in page one, runs no hook and moves `SP` (R162). -/
theorem push_eq (v : Byte) (s : State) :
    push v s = { s with mem := s.mem.write (stackAddr s.cpu.sp).toNat v, cpu := { s.cpu with sp := s.cpu.sp - 1#8 } } := by
  obtain ⟨h0, h6, h7, h16⟩ := stackAddr_not_hooked s.cpu.sp
  simp [push, memWrite, writeHook, h0, h6, h7, h16, State.poke, State.mapCpu]

/-- A pull reads one byte of page one, runs no hook and moves `SP` (R163). -/
theorem pull_eq (s : State) :
    pull s = (s.mem.read (stackAddr (s.cpu.sp + 1#8)).toNat, { s with cpu := { s.cpu with sp := s.cpu.sp + 1#8 } }) := by
  simp [pull, memRead_plain _ (stackAddr_not_live _), State.peek, State.mapCpu]

/-- The two pushes of a 16-bit value (R71, R162). -/
theorem pushWord_eq (v : Word) (s : State) :
    pushWord v s = { s with
      mem := (s.mem.write (stackAddr s.cpu.sp).toNat (hiByte v)).write (stackAddr (s.cpu.sp - 1#8)).toNat (loByte v)
      cpu := { s.cpu with sp := s.cpu.sp - 1#8 - 1#8 } } := by
  simp [pushWord, push_eq]

/-- The two pulls of a 16-bit value (R250, R273). -/
theorem pullWord_eq (s : State) :
    pullWord s = (joinBytes (s.mem.read (stackAddr (s.cpu.sp + 1#8 + 1#8)).toNat) (s.mem.read (stackAddr (s.cpu.sp + 1#8)).toNat),
      { s with cpu := { s.cpu with sp := s.cpu.sp + 1#8 + 1#8 } }) := by
  simp [pullWord, pull_eq]

/-- Neither byte of a vector is a live address (R96), so a vector read has no side effect. -/
theorem read16_plain {a : Word} (s : State) (h : liveRead a = false) (h1 : liveRead (a + 1#16) = false) :
    read16 a s = (joinBytes (s.peek (a + 1#16)) (s.peek a), s) := by
  simp [read16, memRead_plain _ h, memRead_plain _ h1]

/-- The vectors of NMI and of IRQ and BRK are no live addresses (R96). -/
theorem vector_not_live (k : IntKind) : liveRead (vectorOf k) = false ∧ liveRead (vectorOf k + 1#16) = false := by
  cases k <;> decide

/-- The entry through the vector of an interrupt kind: three bytes pushed, `P.I` set, `PC` from the vector (R410, R272). -/
theorem enterVector_eq (ret : Word) (k : IntKind) (s : State) :
    enterVector ret (vectorOf k) s =
      let mem' := ((s.mem.write (stackAddr s.cpu.sp).toNat (hiByte ret)).write (stackAddr (s.cpu.sp - 1#8)).toNat
        (loByte ret)).write (stackAddr (s.cpu.sp - 1#8 - 1#8)).toNat (pushedStatus s.cpu.p)
      { s with
        mem := mem'
        cpu := { s.cpu with
          sp := s.cpu.sp - 1#8 - 1#8 - 1#8
          p := putFlag maskI true s.cpu.p
          pc := joinBytes (mem'.read (vectorOf k + 1#16).toNat) (mem'.read (vectorOf k).toNat) } } := by
  obtain ⟨h, h1⟩ := vector_not_live k
  simp [enterVector, pushWord_eq, push_eq, read16_plain _ h h1, State.jump, State.mapCpu, State.peek, Cpu.setI]

/-- The return of RTI: three bytes pulled, `P` and `PC` loaded (R273). -/
theorem returnFromInterrupt_eq (s : State) :
    returnFromInterrupt s = { s with cpu := { s.cpu with
      sp := s.cpu.sp + 1#8 + 1#8 + 1#8
      p := pulledStatus (s.mem.read (stackAddr (s.cpu.sp + 1#8)).toNat)
      pc := joinBytes (s.mem.read (stackAddr (s.cpu.sp + 1#8 + 1#8 + 1#8)).toNat)
        (s.mem.read (stackAddr (s.cpu.sp + 1#8 + 1#8)).toNat) } } := by
  simp [returnFromInterrupt, pull_eq, pullWord_eq, State.jump, State.mapCpu]

/-! The operand forms. -/

/-- The zero page holds no live address, so the pointer of an indirect form is read without side effect (R149, R150). -/
theorem zeroPage_not_live : ∀ z : Byte, liveRead (zext16 z) = false := by decide

theorem zpPointer_eq (q : Byte) (s : State) :
    zpPointer q s = (joinBytes (s.peek (zext16 (q + 1#8))) (s.peek (zext16 q)), s) := by
  simp [zpPointer, memRead_plain _ (zeroPage_not_live _)]

/-- Every resolver but that of JMP indirect leaves the state as it is (R140). -/
theorem resolve_st {o : Operand} (s : State) (h : ∀ a, o ≠ .ind a) : (resolve o s).st = s := by
  cases o <;> simp_all [resolve, eaImm, eaZp, eaZpx, eaZpy, eaAbs, eaAbx, eaAby, eaIzx, eaIzy, indexed, zpPointer_eq]

@[simp] theorem resolve_st_cpu (o : Operand) (s : State) : (resolve o s).st.cpu = s.cpu := by
  cases o <;> simp [resolve, eaImm, eaZp, eaZpx, eaZpy, eaAbs, eaAbx, eaAby, eaInd, eaIzx, eaIzy, indexed, zpPointer_eq]

@[simp] theorem resolve_st_mem (o : Operand) (s : State) : (resolve o s).st.mem = s.mem := by
  cases o <;> simp [resolve, eaImm, eaZp, eaZpx, eaZpy, eaAbs, eaAbx, eaAby, eaInd, eaIzx, eaIzy, indexed, zpPointer_eq]

@[simp] theorem operandValue_cpu (o : Operand) (s : State) : (operandValue o s).2.cpu = s.cpu := by
  cases o <;> simp [operandValue]

@[simp] theorem operandValue_mem (o : Operand) (s : State) : (operandValue o s).2.mem = s.mem := by
  cases o <;> simp [operandValue]

end Sys2Proof.Machine
end

