-- ==== Sys2Proof/Laws/Forms.lean ====
section
/-! SUPPORT. The forms of every mnemonic: one lemma per mnemonic that gives what `exec` does for all its forms at once, so
that no later proof splits the 256 opcodes. -/

namespace Sys2Proof.Machine

theorem exec_adc {i : Instr} (h : i.mnemonic = some .adc) (s : State) :
    exec i s = .next (retire i.opcode (resolve i.operand s).crossed
      ((operandValue i.operand s).2.mapCpu (Cpu.adc (operandValue i.operand s).1))) :=
  match i, h with
  | .adcIzx _, _ | .adcZp _, _ | .adcImm _, _ | .adcAbs _, _ | .adcIzy _, _ | .adcZpx _, _ | .adcAby _, _ | .adcAbx _, _ => rfl

theorem exec_and {i : Instr} (h : i.mnemonic = some .and) (s : State) :
    exec i s = .next (retire i.opcode (resolve i.operand s).crossed
      ((operandValue i.operand s).2.mapCpu (Cpu.andA (operandValue i.operand s).1))) :=
  match i, h with
  | .andIzx _, _ | .andZp _, _ | .andImm _, _ | .andAbs _, _ | .andIzy _, _ | .andZpx _, _ | .andAby _, _ | .andAbx _, _ => rfl

theorem exec_asl {i : Instr} (h : i.mnemonic = some .asl) (ha : i.operand ≠ .acc) (s : State) :
    exec i s = .next (modifyOperand i.opcode (resolve i.operand s) Cpu.asl) :=
  match i, h, ha with
  | .aslZp _, _, _ | .aslAbs _, _, _ | .aslZpx _, _, _ | .aslAbx _, _, _ => rfl
  | .aslAcc, _, ha => (ha rfl).elim

theorem eq_aslAcc {i : Instr} (h : i.mnemonic = some .asl) (ha : i.operand = .acc) : i = .aslAcc :=
  match i, h, ha with
  | .aslAcc, _, _ => rfl

theorem eq_bcc {i : Instr} (h : i.mnemonic = some .bcc) : ∃ v : Byte, i = .bcc v :=
  match i, h with
  | .bcc v, _ => ⟨v, rfl⟩

theorem eq_bcs {i : Instr} (h : i.mnemonic = some .bcs) : ∃ v : Byte, i = .bcs v :=
  match i, h with
  | .bcs v, _ => ⟨v, rfl⟩

theorem eq_beq {i : Instr} (h : i.mnemonic = some .beq) : ∃ v : Byte, i = .beq v :=
  match i, h with
  | .beq v, _ => ⟨v, rfl⟩

theorem exec_bit {i : Instr} (h : i.mnemonic = some .bit) (s : State) :
    exec i s = .next (retire i.opcode (resolve i.operand s).crossed
      ((operandValue i.operand s).2.mapCpu (Cpu.bitTest (operandValue i.operand s).1))) :=
  match i, h with
  | .bitZp _, _ | .bitAbs _, _ => rfl

theorem eq_bmi {i : Instr} (h : i.mnemonic = some .bmi) : ∃ v : Byte, i = .bmi v :=
  match i, h with
  | .bmi v, _ => ⟨v, rfl⟩

theorem eq_bne {i : Instr} (h : i.mnemonic = some .bne) : ∃ v : Byte, i = .bne v :=
  match i, h with
  | .bne v, _ => ⟨v, rfl⟩

theorem eq_bpl {i : Instr} (h : i.mnemonic = some .bpl) : ∃ v : Byte, i = .bpl v :=
  match i, h with
  | .bpl v, _ => ⟨v, rfl⟩

theorem eq_brk {i : Instr} (h : i.mnemonic = some .brk) : i = .brk :=
  match i, h with
  | .brk, _ => rfl

theorem eq_bvc {i : Instr} (h : i.mnemonic = some .bvc) : ∃ v : Byte, i = .bvc v :=
  match i, h with
  | .bvc v, _ => ⟨v, rfl⟩

theorem eq_bvs {i : Instr} (h : i.mnemonic = some .bvs) : ∃ v : Byte, i = .bvs v :=
  match i, h with
  | .bvs v, _ => ⟨v, rfl⟩

theorem eq_clc {i : Instr} (h : i.mnemonic = some .clc) : i = .clc :=
  match i, h with
  | .clc, _ => rfl

theorem eq_cld {i : Instr} (h : i.mnemonic = some .cld) : i = .cld :=
  match i, h with
  | .cld, _ => rfl

theorem eq_cli {i : Instr} (h : i.mnemonic = some .cli) : i = .cli :=
  match i, h with
  | .cli, _ => rfl

theorem eq_clv {i : Instr} (h : i.mnemonic = some .clv) : i = .clv :=
  match i, h with
  | .clv, _ => rfl

theorem exec_cmp {i : Instr} (h : i.mnemonic = some .cmp) (s : State) :
    exec i s = .next (retire i.opcode (resolve i.operand s).crossed
      ((operandValue i.operand s).2.mapCpu (Cpu.cmpA (operandValue i.operand s).1))) :=
  match i, h with
  | .cmpIzx _, _ | .cmpZp _, _ | .cmpImm _, _ | .cmpAbs _, _ | .cmpIzy _, _ | .cmpZpx _, _ | .cmpAby _, _ | .cmpAbx _, _ => rfl

theorem exec_cpx {i : Instr} (h : i.mnemonic = some .cpx) (s : State) :
    exec i s = .next (retire i.opcode (resolve i.operand s).crossed
      ((operandValue i.operand s).2.mapCpu (Cpu.cmpX (operandValue i.operand s).1))) :=
  match i, h with
  | .cpxImm _, _ | .cpxZp _, _ | .cpxAbs _, _ => rfl

theorem exec_cpy {i : Instr} (h : i.mnemonic = some .cpy) (s : State) :
    exec i s = .next (retire i.opcode (resolve i.operand s).crossed
      ((operandValue i.operand s).2.mapCpu (Cpu.cmpY (operandValue i.operand s).1))) :=
  match i, h with
  | .cpyImm _, _ | .cpyZp _, _ | .cpyAbs _, _ => rfl

theorem exec_dec {i : Instr} (h : i.mnemonic = some .dec) (s : State) :
    exec i s = .next (modifyOperand i.opcode (resolve i.operand s) Cpu.decM) :=
  match i, h with
  | .decZp _, _ | .decAbs _, _ | .decZpx _, _ | .decAbx _, _ => rfl

theorem eq_dex {i : Instr} (h : i.mnemonic = some .dex) : i = .dex :=
  match i, h with
  | .dex, _ => rfl

theorem eq_dey {i : Instr} (h : i.mnemonic = some .dey) : i = .dey :=
  match i, h with
  | .dey, _ => rfl

theorem exec_eor {i : Instr} (h : i.mnemonic = some .eor) (s : State) :
    exec i s = .next (retire i.opcode (resolve i.operand s).crossed
      ((operandValue i.operand s).2.mapCpu (Cpu.eorA (operandValue i.operand s).1))) :=
  match i, h with
  | .eorIzx _, _ | .eorZp _, _ | .eorImm _, _ | .eorAbs _, _ | .eorIzy _, _ | .eorZpx _, _ | .eorAby _, _ | .eorAbx _, _ => rfl

theorem exec_inc {i : Instr} (h : i.mnemonic = some .inc) (s : State) :
    exec i s = .next (modifyOperand i.opcode (resolve i.operand s) Cpu.incM) :=
  match i, h with
  | .incZp _, _ | .incAbs _, _ | .incZpx _, _ | .incAbx _, _ => rfl

theorem eq_inx {i : Instr} (h : i.mnemonic = some .inx) : i = .inx :=
  match i, h with
  | .inx, _ => rfl

theorem eq_iny {i : Instr} (h : i.mnemonic = some .iny) : i = .iny :=
  match i, h with
  | .iny, _ => rfl

theorem eq_jmp {i : Instr} (h : i.mnemonic = some .jmp) : ∃ v : Word, i = .jmpAbs v ∨ i = .jmpInd v :=
  match i, h with
  | .jmpAbs v, _ => ⟨v, .inl rfl⟩
  | .jmpInd v, _ => ⟨v, .inr rfl⟩

theorem eq_jsr {i : Instr} (h : i.mnemonic = some .jsr) : ∃ v : Word, i = .jsrAbs v :=
  match i, h with
  | .jsrAbs v, _ => ⟨v, rfl⟩

theorem exec_lda {i : Instr} (h : i.mnemonic = some .lda) (s : State) :
    exec i s = .next (retire i.opcode (resolve i.operand s).crossed
      ((operandValue i.operand s).2.mapCpu (Cpu.lda (operandValue i.operand s).1))) :=
  match i, h with
  | .ldaIzx _, _ | .ldaZp _, _ | .ldaImm _, _ | .ldaAbs _, _ | .ldaIzy _, _ | .ldaZpx _, _ | .ldaAby _, _ | .ldaAbx _, _ => rfl

theorem exec_ldx {i : Instr} (h : i.mnemonic = some .ldx) (s : State) :
    exec i s = .next (retire i.opcode (resolve i.operand s).crossed
      ((operandValue i.operand s).2.mapCpu (Cpu.ldx (operandValue i.operand s).1))) :=
  match i, h with
  | .ldxImm _, _ | .ldxZp _, _ | .ldxAbs _, _ | .ldxZpy _, _ | .ldxAby _, _ => rfl

theorem exec_ldy {i : Instr} (h : i.mnemonic = some .ldy) (s : State) :
    exec i s = .next (retire i.opcode (resolve i.operand s).crossed
      ((operandValue i.operand s).2.mapCpu (Cpu.ldy (operandValue i.operand s).1))) :=
  match i, h with
  | .ldyImm _, _ | .ldyZp _, _ | .ldyAbs _, _ | .ldyZpx _, _ | .ldyAbx _, _ => rfl

theorem exec_lsr {i : Instr} (h : i.mnemonic = some .lsr) (ha : i.operand ≠ .acc) (s : State) :
    exec i s = .next (modifyOperand i.opcode (resolve i.operand s) Cpu.lsr) :=
  match i, h, ha with
  | .lsrZp _, _, _ | .lsrAbs _, _, _ | .lsrZpx _, _, _ | .lsrAbx _, _, _ => rfl
  | .lsrAcc, _, ha => (ha rfl).elim

theorem eq_lsrAcc {i : Instr} (h : i.mnemonic = some .lsr) (ha : i.operand = .acc) : i = .lsrAcc :=
  match i, h, ha with
  | .lsrAcc, _, _ => rfl

theorem eq_nop {i : Instr} (h : i.mnemonic = some .nop) : i = .nop :=
  match i, h with
  | .nop, _ => rfl

theorem exec_ora {i : Instr} (h : i.mnemonic = some .ora) (s : State) :
    exec i s = .next (retire i.opcode (resolve i.operand s).crossed
      ((operandValue i.operand s).2.mapCpu (Cpu.oraA (operandValue i.operand s).1))) :=
  match i, h with
  | .oraIzx _, _ | .oraZp _, _ | .oraImm _, _ | .oraAbs _, _ | .oraIzy _, _ | .oraZpx _, _ | .oraAby _, _ | .oraAbx _, _ => rfl

theorem eq_pha {i : Instr} (h : i.mnemonic = some .pha) : i = .pha :=
  match i, h with
  | .pha, _ => rfl

theorem eq_php {i : Instr} (h : i.mnemonic = some .php) : i = .php :=
  match i, h with
  | .php, _ => rfl

theorem eq_pla {i : Instr} (h : i.mnemonic = some .pla) : i = .pla :=
  match i, h with
  | .pla, _ => rfl

theorem eq_plp {i : Instr} (h : i.mnemonic = some .plp) : i = .plp :=
  match i, h with
  | .plp, _ => rfl

theorem exec_rol {i : Instr} (h : i.mnemonic = some .rol) (ha : i.operand ≠ .acc) (s : State) :
    exec i s = .next (modifyOperand i.opcode (resolve i.operand s) Cpu.rol) :=
  match i, h, ha with
  | .rolZp _, _, _ | .rolAbs _, _, _ | .rolZpx _, _, _ | .rolAbx _, _, _ => rfl
  | .rolAcc, _, ha => (ha rfl).elim

theorem eq_rolAcc {i : Instr} (h : i.mnemonic = some .rol) (ha : i.operand = .acc) : i = .rolAcc :=
  match i, h, ha with
  | .rolAcc, _, _ => rfl

theorem exec_ror {i : Instr} (h : i.mnemonic = some .ror) (ha : i.operand ≠ .acc) (s : State) :
    exec i s = .next (modifyOperand i.opcode (resolve i.operand s) Cpu.ror) :=
  match i, h, ha with
  | .rorZp _, _, _ | .rorAbs _, _, _ | .rorZpx _, _, _ | .rorAbx _, _, _ => rfl
  | .rorAcc, _, ha => (ha rfl).elim

theorem eq_rorAcc {i : Instr} (h : i.mnemonic = some .ror) (ha : i.operand = .acc) : i = .rorAcc :=
  match i, h, ha with
  | .rorAcc, _, _ => rfl

theorem eq_rti {i : Instr} (h : i.mnemonic = some .rti) : i = .rti :=
  match i, h with
  | .rti, _ => rfl

theorem eq_rts {i : Instr} (h : i.mnemonic = some .rts) : i = .rts :=
  match i, h with
  | .rts, _ => rfl

theorem exec_sbc {i : Instr} (h : i.mnemonic = some .sbc) (s : State) :
    exec i s = .next (retire i.opcode (resolve i.operand s).crossed
      ((operandValue i.operand s).2.mapCpu (Cpu.sbc (operandValue i.operand s).1))) :=
  match i, h with
  | .sbcIzx _, _ | .sbcZp _, _ | .sbcImm _, _ | .sbcAbs _, _ | .sbcIzy _, _ | .sbcZpx _, _ | .sbcAby _, _ | .sbcAbx _, _ => rfl

theorem eq_sec {i : Instr} (h : i.mnemonic = some .sec) : i = .sec :=
  match i, h with
  | .sec, _ => rfl

theorem eq_sed {i : Instr} (h : i.mnemonic = some .sed) : i = .sed :=
  match i, h with
  | .sed, _ => rfl

theorem eq_sei {i : Instr} (h : i.mnemonic = some .sei) : i = .sei :=
  match i, h with
  | .sei, _ => rfl

theorem exec_sta {i : Instr} (h : i.mnemonic = some .sta) (s : State) :
    exec i s = .next (storeOperand i.opcode (resolve i.operand s) Cpu.a) :=
  match i, h with
  | .staIzx _, _ | .staZp _, _ | .staAbs _, _ | .staIzy _, _ | .staZpx _, _ | .staAby _, _ | .staAbx _, _ => rfl

theorem exec_stx {i : Instr} (h : i.mnemonic = some .stx) (s : State) :
    exec i s = .next (storeOperand i.opcode (resolve i.operand s) Cpu.x) :=
  match i, h with
  | .stxZp _, _ | .stxAbs _, _ | .stxZpy _, _ => rfl

theorem exec_sty {i : Instr} (h : i.mnemonic = some .sty) (s : State) :
    exec i s = .next (storeOperand i.opcode (resolve i.operand s) Cpu.y) :=
  match i, h with
  | .styZp _, _ | .styAbs _, _ | .styZpx _, _ => rfl

theorem eq_tax {i : Instr} (h : i.mnemonic = some .tax) : i = .tax :=
  match i, h with
  | .tax, _ => rfl

theorem eq_tay {i : Instr} (h : i.mnemonic = some .tay) : i = .tay :=
  match i, h with
  | .tay, _ => rfl

theorem eq_tsx {i : Instr} (h : i.mnemonic = some .tsx) : i = .tsx :=
  match i, h with
  | .tsx, _ => rfl

theorem eq_txa {i : Instr} (h : i.mnemonic = some .txa) : i = .txa :=
  match i, h with
  | .txa, _ => rfl

theorem eq_txs {i : Instr} (h : i.mnemonic = some .txs) : i = .txs :=
  match i, h with
  | .txs, _ => rfl

theorem eq_tya {i : Instr} (h : i.mnemonic = some .tya) : i = .tya :=
  match i, h with
  | .tya, _ => rfl

/-- A gap stops the machine: `raise Fatal` with its own opcode byte (R121, R402). -/
theorem exec_gap {i : Instr} (h : i.mnemonic = none) (s : State) : exec i s = .next (raiseFatal i.opcode s) :=
  match i, h with
  | .illegal02, _ | .illegal03, _ | .illegal04, _ | .illegal07, _ | .illegal0B, _ | .illegal0C, _ | .illegal0F, _ | .illegal12, _ => rfl
  | .illegal13, _ | .illegal14, _ | .illegal17, _ | .illegal1A, _ | .illegal1B, _ | .illegal1C, _ | .illegal1F, _ | .illegal22, _ => rfl
  | .illegal23, _ | .illegal27, _ | .illegal2B, _ | .illegal2F, _ | .illegal32, _ | .illegal33, _ | .illegal34, _ | .illegal37, _ => rfl
  | .illegal3A, _ | .illegal3B, _ | .illegal3C, _ | .illegal3F, _ | .illegal42, _ | .illegal43, _ | .illegal44, _ | .illegal47, _ => rfl
  | .illegal4B, _ | .illegal4F, _ | .illegal52, _ | .illegal53, _ | .illegal54, _ | .illegal57, _ | .illegal5A, _ | .illegal5B, _ => rfl
  | .illegal5C, _ | .illegal5F, _ | .illegal62, _ | .illegal63, _ | .illegal64, _ | .illegal67, _ | .illegal6B, _ | .illegal6F, _ => rfl
  | .illegal72, _ | .illegal73, _ | .illegal74, _ | .illegal77, _ | .illegal7A, _ | .illegal7B, _ | .illegal7C, _ | .illegal7F, _ => rfl
  | .illegal80, _ | .illegal82, _ | .illegal83, _ | .illegal87, _ | .illegal89, _ | .illegal8B, _ | .illegal8F, _ | .illegal92, _ => rfl
  | .illegal93, _ | .illegal97, _ | .illegal9B, _ | .illegal9C, _ | .illegal9E, _ | .illegal9F, _ | .illegalA3, _ | .illegalA7, _ => rfl
  | .illegalAB, _ | .illegalAF, _ | .illegalB2, _ | .illegalB3, _ | .illegalB7, _ | .illegalBB, _ | .illegalBF, _ | .illegalC2, _ => rfl
  | .illegalC3, _ | .illegalC7, _ | .illegalCB, _ | .illegalCF, _ | .illegalD2, _ | .illegalD3, _ | .illegalD4, _ | .illegalD7, _ => rfl
  | .illegalDA, _ | .illegalDB, _ | .illegalDC, _ | .illegalDF, _ | .illegalE2, _ | .illegalE3, _ | .illegalE7, _ | .illegalEB, _ => rfl
  | .illegalEF, _ | .illegalF2, _ | .illegalF3, _ | .illegalF4, _ | .illegalF7, _ | .illegalFA, _ | .illegalFB, _ | .illegalFC, _ => rfl
  | .illegalFF, _ => rfl

end Sys2Proof.Machine
end

