-- ==== Sys2Proof/Laws/Path.lean ====
section
/-! SUPPORT. What an instruction can do, said once: it makes bus accesses and moves the CPU, and nothing else. Every
invariant of a step over the arrays, the PPU and the fixed bits of `P` is derived from this. -/

namespace Sys2Proof.Machine

/-- What an instruction can do to the CPU beside its registers and flags: `IQ` is kept, `CYC` does not fall, and the bits E
and B of `P` are kept or are as a status pull forces them (R30, R33, R34). -/
def CpuMove (c c' : Cpu) : Prop :=
  c'.iq = c.iq ∧ c.cyc ≤ c'.cyc ∧
    ((c'.flagE = c.flagE ∧ c'.flagB = c.flagB) ∨ (c'.flagE = true ∧ c'.flagB = false))

/-- `t` is reached from `s` by bus accesses and moves of the CPU. -/
inductive BusPath (s : State) : State → Prop where
  | start : BusPath s s
  | read (a : Word) {t : State} (h : BusPath s t) : BusPath s (memRead a t).2
  | write (a : Word) (v : Byte) {t : State} (h : BusPath s t) : BusPath s (memWrite a v t)
  | move (f : Cpu → Cpu) {t : State} (h : BusPath s t) (hf : CpuMove t.cpu (f t.cpu)) : BusPath s (t.mapCpu f)

theorem CpuMove.refl (c : Cpu) : CpuMove c c := ⟨rfl, le_rfl, .inl ⟨rfl, rfl⟩⟩

/-- A change of registers and `CYC` alone is a move. -/
theorem CpuMove.of_p {c c' : Cpu} (h : c'.p = c.p) (hi : c'.iq = c.iq) (hc : c.cyc ≤ c'.cyc) : CpuMove c c' :=
  ⟨hi, hc, .inl (by simp [Cpu.flagE, Cpu.flagB, h])⟩

/-- A change of flags other than E and B is a move. -/
theorem CpuMove.of_flags {c c' : Cpu} (h : FlagsKept 0xCF#8 c c') (hi : c'.iq = c.iq) (hc : c.cyc ≤ c'.cyc) :
    CpuMove c c' :=
  ⟨hi, hc, .inl ⟨h.bit (n := 5) (by decide) (by decide), h.bit (n := 4) (by decide) (by decide)⟩⟩

theorem CpuMove.trans {c c' c'' : Cpu} (h : CpuMove c c') (h' : CpuMove c' c'') : CpuMove c c'' := by
  obtain ⟨hi, hc, hp⟩ := h
  obtain ⟨hi', hc', hp'⟩ := h'
  refine ⟨hi'.trans hi, hc.trans hc', ?_⟩
  rcases hp' with ⟨e', b'⟩ | h'
  · rcases hp with ⟨e, b⟩ | ⟨e, b⟩
    · exact .inl ⟨e'.trans e, b'.trans b⟩
    · exact .inr ⟨e'.trans e, b'.trans b⟩
  · exact .inr h'

/-! The moves. -/

theorem FlagsKept.of_putFlag {mask wide : Byte} {c c' : Cpu} (v : Bool) (h : mask &&& ~~~wide = 0#8)
    (hp : c'.p = putFlag mask v c.p) : FlagsKept wide c c' := by
  rw [FlagsKept, hp, putFlag_kept h]

theorem FlagsKept.widen {mask wide : Byte} {c c' : Cpu} (h : FlagsKept mask c c') (hw : mask &&& ~~~wide = 0#8) :
    FlagsKept wide c c' := by
  unfold FlagsKept at *
  have e : ~~~mask &&& ~~~wide = ~~~wide := by
    ext n hn
    have := congrArg (fun b => BitVec.getLsbD b n) hw
    simp [hn] at this ⊢
    exact fun hb => by_contra fun hm => by simp_all
  calc c'.p &&& ~~~wide = (c'.p &&& ~~~mask) &&& ~~~wide := by rw [BitVec.and_assoc, e]
    _ = (c.p &&& ~~~mask) &&& ~~~wide := by rw [h]
    _ = c.p &&& ~~~wide := by rw [BitVec.and_assoc, e]

theorem Cpu.adcCore_kept (b vb : Byte) (c : Cpu) : FlagsKept 0xC3#8 c (c.adcCore b vb) := by
  unfold FlagsKept Cpu.adcCore
  simp only [Cpu.setZN_p, Cpu.setV_p, Cpu.setC_p]
  rw [putFlag_kept (by decide), putFlag_kept (by decide), putFlag_kept (by decide), putFlag_kept (by decide)]

theorem Cpu.cmpCore_kept (r m : Byte) (c : Cpu) : FlagsKept 0x83#8 c (c.cmpCore r m) := by
  unfold FlagsKept Cpu.cmpCore
  simp only [Cpu.setZN_p, Cpu.setC_p]
  rw [putFlag_kept (by decide), putFlag_kept (by decide), putFlag_kept (by decide)]

theorem Cpu.bitTest_kept (m : Byte) (c : Cpu) : FlagsKept 0xC2#8 c (c.bitTest m) := by
  unfold FlagsKept Cpu.bitTest
  simp only [Cpu.setN_p, Cpu.setV_p, Cpu.setZ_p]
  rw [putFlag_kept (by decide), putFlag_kept (by decide), putFlag_kept (by decide)]

theorem Cpu.shifted_kept (out : Bool) (r : Byte) (c : Cpu) : FlagsKept 0x83#8 c (c.shifted out r).2 := by
  unfold FlagsKept Cpu.shifted
  simp only [Cpu.setZN_p, Cpu.setC_p]
  rw [putFlag_kept (by decide), putFlag_kept (by decide), putFlag_kept (by decide)]

/-- Whatever registers changed, a result's Z and N are the only flags written. -/
theorem CpuMove.setZN (v : Byte) {c c' : Cpu} (h : CpuMove c c') : CpuMove c (c'.setZN v) :=
  h.trans (.of_flags ((Cpu.setZN_kept v c').widen (by decide)) rfl le_rfl)

theorem CpuMove.setI (v : Bool) (c : Cpu) : CpuMove c (c.setI v) :=
  .of_flags (.of_putFlag v (by decide) rfl) rfl le_rfl

theorem CpuMove.pullP (v : Byte) (c : Cpu) : CpuMove c (c.pullP v) := by
  refine ⟨rfl, le_rfl, .inr ?_⟩
  have h : ∀ v : Byte, (pulledStatus v).getLsbD 5 = true ∧ (pulledStatus v).getLsbD 4 = false := by decide
  exact h v

/-- An instruction that computes from an operand byte moves the CPU. -/
def Computes (f : Byte → Cpu → Cpu) : Prop := ∀ m c, CpuMove c (f m c)

/-- An instruction that computes a byte to write back moves the CPU. -/
def Rewrites (f : Byte → Cpu → Byte × Cpu) : Prop := ∀ m c, CpuMove c (f m c).2

theorem computes_lda : Computes Cpu.lda := fun m _ => .setZN m (.of_p rfl rfl le_rfl)
theorem computes_ldx : Computes Cpu.ldx := fun m _ => .setZN m (.of_p rfl rfl le_rfl)
theorem computes_ldy : Computes Cpu.ldy := fun m _ => .setZN m (.of_p rfl rfl le_rfl)
theorem computes_adc : Computes Cpu.adc := fun m c => .of_flags ((c.adcCore_kept m m).widen (by decide)) rfl le_rfl
theorem computes_sbc : Computes Cpu.sbc := fun _ c => .of_flags ((c.adcCore_kept _ _).widen (by decide)) rfl le_rfl
theorem computes_and : Computes Cpu.andA := fun _ _ => .setZN _ (.of_p rfl rfl le_rfl)
theorem computes_ora : Computes Cpu.oraA := fun _ _ => .setZN _ (.of_p rfl rfl le_rfl)
theorem computes_eor : Computes Cpu.eorA := fun _ _ => .setZN _ (.of_p rfl rfl le_rfl)
theorem computes_cmp : Computes Cpu.cmpA := fun m c => .of_flags ((c.cmpCore_kept c.a m).widen (by decide)) rfl le_rfl
theorem computes_cpx : Computes Cpu.cmpX := fun m c => .of_flags ((c.cmpCore_kept c.x m).widen (by decide)) rfl le_rfl
theorem computes_cpy : Computes Cpu.cmpY := fun m c => .of_flags ((c.cmpCore_kept c.y m).widen (by decide)) rfl le_rfl
theorem computes_bit : Computes Cpu.bitTest := fun m c => .of_flags ((c.bitTest_kept m).widen (by decide)) rfl le_rfl
theorem rewrites_inc : Rewrites Cpu.incM := fun _ c => .setZN _ (.refl c)
theorem rewrites_dec : Rewrites Cpu.decM := fun _ c => .setZN _ (.refl c)
theorem rewrites_asl : Rewrites Cpu.asl := fun _ c => .of_flags ((c.shifted_kept _ _).widen (by decide)) rfl le_rfl
theorem rewrites_lsr : Rewrites Cpu.lsr := fun _ c => .of_flags ((c.shifted_kept _ _).widen (by decide)) rfl le_rfl
theorem rewrites_rol : Rewrites Cpu.rol := fun _ c => .of_flags ((c.shifted_kept _ _).widen (by decide)) rfl le_rfl
theorem rewrites_ror : Rewrites Cpu.ror := fun _ c => .of_flags ((c.shifted_kept _ _).widen (by decide)) rfl le_rfl

/-! The shared operations. -/

theorem BusPath.trans {s t u : State} (h : BusPath s t) (h' : BusPath t u) : BusPath s u := by
  induction h' with
  | start => exact h
  | read a _ ih => exact .read a ih
  | write a v _ ih => exact .write a v ih
  | move f _ hf ih => exact .move f ih hf

theorem BusPath.retire (op : Byte) (crossed : Bool) {s t : State} (h : BusPath s t) : BusPath s (retire op crossed t) :=
  .move _ h (.of_p rfl rfl (Nat.le_add_right _ _))

theorem BusPath.spend (n : Nat) {s t : State} (h : BusPath s t) : BusPath s (t.spend n) :=
  .move _ h (.of_p rfl rfl (Nat.le_add_right _ _))

theorem BusPath.jump (target : Word) {s t : State} (h : BusPath s t) : BusPath s (t.jump target) :=
  .move _ h (.of_p rfl rfl le_rfl)

theorem BusPath.push (v : Byte) {s t : State} (h : BusPath s t) : BusPath s (push v t) :=
  .move _ (.write _ v h) (.of_p rfl rfl le_rfl)

theorem BusPath.pull {s t : State} (h : BusPath s t) : BusPath s (pull t).2 :=
  .read _ (.move _ h (.of_p rfl rfl le_rfl))

theorem BusPath.pushWord (v : Word) {s t : State} (h : BusPath s t) : BusPath s (pushWord v t) := (h.push _).push _

theorem BusPath.pullWord {s t : State} (h : BusPath s t) : BusPath s (pullWord t).2 := h.pull.pull

theorem BusPath.enterVector (ret vec : Word) {s t : State} (h : BusPath s t) : BusPath s (enterVector ret vec t) :=
  .jump _ (.read _ (.read _ (.move _ ((h.pushWord ret).push _) (.setI true _))))

theorem BusPath.returnFromInterrupt {s t : State} (h : BusPath s t) : BusPath s (returnFromInterrupt t) :=
  .jump _ (.pullWord (.move _ h.pull (CpuMove.pullP _ _)))

theorem BusPath.raiseFatal (op : Byte) {s t : State} (h : BusPath s t) : BusPath s (raiseFatal op t) :=
  .move _ h (.of_p rfl rfl le_rfl)

/-- A resolver makes reads only (R140). -/
theorem BusPath.eaInd (a : Word) (s : State) : BusPath s (eaInd a s).st := .read _ (.read _ .start)

theorem BusPath.eaIzx (z : Byte) (s : State) : BusPath s (eaIzx z s).st := .read _ (.read _ .start)

theorem BusPath.eaIzy (z : Byte) (s : State) : BusPath s (eaIzy z s).st := .read _ (.read _ .start)

theorem BusPath.immediate (op m : Byte) {f : Byte → Cpu → Cpu} (hf : Computes f) (s : State) :
    BusPath s (immediate op m f s) :=
  .retire _ _ (.move _ .start (hf m _))

theorem BusPath.readOperand (op : Byte) {r : Resolved} {f : Byte → Cpu → Cpu} {s : State} (h : BusPath s r.st)
    (hf : Computes f) : BusPath s (readOperand op r f) :=
  .retire _ _ (.move _ (.read _ h) (hf _ _))

theorem BusPath.storeOperand (op : Byte) {r : Resolved} (reg : Cpu → Byte) {s : State} (h : BusPath s r.st) :
    BusPath s (storeOperand op r reg) :=
  .retire _ _ (.write _ _ h)

theorem BusPath.modifyOperand (op : Byte) {r : Resolved} {f : Byte → Cpu → Byte × Cpu} {s : State} (h : BusPath s r.st)
    (hf : Rewrites f) : BusPath s (modifyOperand op r f) :=
  .retire _ _ (.write _ _ (.move _ (.read _ h) (hf _ _)))

theorem BusPath.modifyAccumulator (op : Byte) {f : Byte → Cpu → Byte × Cpu} (hf : Rewrites f) (s : State) :
    BusPath s (modifyAccumulator op f s) :=
  .retire _ _ (.move _ .start ((hf _ _).trans (.of_p rfl rfl le_rfl)))

theorem BusPath.inherent (op : Byte) {f : Cpu → Cpu} (hf : ∀ c, CpuMove c (f c)) (s : State) :
    BusPath s (inherent op f s) :=
  .retire _ _ (.move _ .start (hf _))

theorem BusPath.branch (op : Byte) (taken : Bool) (off : Byte) (s : State) : BusPath s (branch op taken off s) :=
  .spend _ (.spend _ (.jump _ .start))

theorem BusPath.fetch (s : State) : BusPath s (fetch s).2 := by
  unfold Sys2Proof.Machine.fetch
  dsimp only
  split
  · exact .read _ .start
  · exact .read _ (.read _ .start)
  · exact .read _ (.read _ (.read _ .start))

theorem CpuMove.flag (mask : Byte) (v : Bool) (h : mask &&& ~~~(0xCF#8) = 0#8) (c : Cpu) :
    CpuMove c { c with p := putFlag mask v c.p } :=
  .of_flags (.of_putFlag v h rfl) rfl le_rfl

theorem Cpu.inx_move (c : Cpu) : CpuMove c c.inx := .setZN _ (.of_p rfl rfl le_rfl)
theorem Cpu.iny_move (c : Cpu) : CpuMove c c.iny := .setZN _ (.of_p rfl rfl le_rfl)
theorem Cpu.dex_move (c : Cpu) : CpuMove c c.dex := .setZN _ (.of_p rfl rfl le_rfl)
theorem Cpu.dey_move (c : Cpu) : CpuMove c c.dey := .setZN _ (.of_p rfl rfl le_rfl)
theorem Cpu.txs_move (c : Cpu) : CpuMove c c.txs := .of_p rfl rfl le_rfl

/-- Every instruction answers a next state, which it reaches by bus accesses and moves of the CPU. -/
theorem exec_next_path (i : Instr) (s : State) : ∃ t, exec i s = .next t ∧ BusPath s t :=
  match i with
  | .ldaImm _ =>
    ⟨_, rfl, .immediate _ _ computes_lda _⟩
  | .ldaZp _ | .ldaAbs _ | .ldaZpx _ | .ldaAby _ | .ldaAbx _ =>
    ⟨_, rfl, .readOperand _ .start computes_lda⟩
  | .ldaIzx _ =>
    ⟨_, rfl, .readOperand _ (.eaIzx _ _) computes_lda⟩
  | .ldaIzy _ =>
    ⟨_, rfl, .readOperand _ (.eaIzy _ _) computes_lda⟩
  | .ldxImm _ =>
    ⟨_, rfl, .immediate _ _ computes_ldx _⟩
  | .ldxZp _ | .ldxAbs _ | .ldxZpy _ | .ldxAby _ =>
    ⟨_, rfl, .readOperand _ .start computes_ldx⟩
  | .ldyImm _ =>
    ⟨_, rfl, .immediate _ _ computes_ldy _⟩
  | .ldyZp _ | .ldyAbs _ | .ldyZpx _ | .ldyAbx _ =>
    ⟨_, rfl, .readOperand _ .start computes_ldy⟩
  | .adcImm _ =>
    ⟨_, rfl, .immediate _ _ computes_adc _⟩
  | .adcZp _ | .adcAbs _ | .adcZpx _ | .adcAby _ | .adcAbx _ =>
    ⟨_, rfl, .readOperand _ .start computes_adc⟩
  | .adcIzx _ =>
    ⟨_, rfl, .readOperand _ (.eaIzx _ _) computes_adc⟩
  | .adcIzy _ =>
    ⟨_, rfl, .readOperand _ (.eaIzy _ _) computes_adc⟩
  | .sbcImm _ =>
    ⟨_, rfl, .immediate _ _ computes_sbc _⟩
  | .sbcZp _ | .sbcAbs _ | .sbcZpx _ | .sbcAby _ | .sbcAbx _ =>
    ⟨_, rfl, .readOperand _ .start computes_sbc⟩
  | .sbcIzx _ =>
    ⟨_, rfl, .readOperand _ (.eaIzx _ _) computes_sbc⟩
  | .sbcIzy _ =>
    ⟨_, rfl, .readOperand _ (.eaIzy _ _) computes_sbc⟩
  | .andImm _ =>
    ⟨_, rfl, .immediate _ _ computes_and _⟩
  | .andZp _ | .andAbs _ | .andZpx _ | .andAby _ | .andAbx _ =>
    ⟨_, rfl, .readOperand _ .start computes_and⟩
  | .andIzx _ =>
    ⟨_, rfl, .readOperand _ (.eaIzx _ _) computes_and⟩
  | .andIzy _ =>
    ⟨_, rfl, .readOperand _ (.eaIzy _ _) computes_and⟩
  | .oraImm _ =>
    ⟨_, rfl, .immediate _ _ computes_ora _⟩
  | .oraZp _ | .oraAbs _ | .oraZpx _ | .oraAby _ | .oraAbx _ =>
    ⟨_, rfl, .readOperand _ .start computes_ora⟩
  | .oraIzx _ =>
    ⟨_, rfl, .readOperand _ (.eaIzx _ _) computes_ora⟩
  | .oraIzy _ =>
    ⟨_, rfl, .readOperand _ (.eaIzy _ _) computes_ora⟩
  | .eorImm _ =>
    ⟨_, rfl, .immediate _ _ computes_eor _⟩
  | .eorZp _ | .eorAbs _ | .eorZpx _ | .eorAby _ | .eorAbx _ =>
    ⟨_, rfl, .readOperand _ .start computes_eor⟩
  | .eorIzx _ =>
    ⟨_, rfl, .readOperand _ (.eaIzx _ _) computes_eor⟩
  | .eorIzy _ =>
    ⟨_, rfl, .readOperand _ (.eaIzy _ _) computes_eor⟩
  | .cmpImm _ =>
    ⟨_, rfl, .immediate _ _ computes_cmp _⟩
  | .cmpZp _ | .cmpAbs _ | .cmpZpx _ | .cmpAby _ | .cmpAbx _ =>
    ⟨_, rfl, .readOperand _ .start computes_cmp⟩
  | .cmpIzx _ =>
    ⟨_, rfl, .readOperand _ (.eaIzx _ _) computes_cmp⟩
  | .cmpIzy _ =>
    ⟨_, rfl, .readOperand _ (.eaIzy _ _) computes_cmp⟩
  | .cpxImm _ =>
    ⟨_, rfl, .immediate _ _ computes_cpx _⟩
  | .cpxZp _ | .cpxAbs _ =>
    ⟨_, rfl, .readOperand _ .start computes_cpx⟩
  | .cpyImm _ =>
    ⟨_, rfl, .immediate _ _ computes_cpy _⟩
  | .cpyZp _ | .cpyAbs _ =>
    ⟨_, rfl, .readOperand _ .start computes_cpy⟩
  | .bitZp _ | .bitAbs _ =>
    ⟨_, rfl, .readOperand _ .start computes_bit⟩
  | .styZp _ | .staZp _ | .stxZp _ | .styAbs _ | .staAbs _ | .stxAbs _ | .styZpx _ | .staZpx _ | .stxZpy _ | .staAby _ | .staAbx _ =>
    ⟨_, rfl, .storeOperand _ _ .start⟩
  | .staIzx _ =>
    ⟨_, rfl, .storeOperand _ _ (.eaIzx _ _)⟩
  | .staIzy _ =>
    ⟨_, rfl, .storeOperand _ _ (.eaIzy _ _)⟩
  | .incZp _ | .incAbs _ | .incZpx _ | .incAbx _ =>
    ⟨_, rfl, .modifyOperand _ .start rewrites_inc⟩
  | .decZp _ | .decAbs _ | .decZpx _ | .decAbx _ =>
    ⟨_, rfl, .modifyOperand _ .start rewrites_dec⟩
  | .aslZp _ | .aslAbs _ | .aslZpx _ | .aslAbx _ =>
    ⟨_, rfl, .modifyOperand _ .start rewrites_asl⟩
  | .aslAcc =>
    ⟨_, rfl, .modifyAccumulator _ rewrites_asl _⟩
  | .lsrZp _ | .lsrAbs _ | .lsrZpx _ | .lsrAbx _ =>
    ⟨_, rfl, .modifyOperand _ .start rewrites_lsr⟩
  | .lsrAcc =>
    ⟨_, rfl, .modifyAccumulator _ rewrites_lsr _⟩
  | .rolZp _ | .rolAbs _ | .rolZpx _ | .rolAbx _ =>
    ⟨_, rfl, .modifyOperand _ .start rewrites_rol⟩
  | .rolAcc =>
    ⟨_, rfl, .modifyAccumulator _ rewrites_rol _⟩
  | .rorZp _ | .rorAbs _ | .rorZpx _ | .rorAbx _ =>
    ⟨_, rfl, .modifyOperand _ .start rewrites_ror⟩
  | .rorAcc =>
    ⟨_, rfl, .modifyAccumulator _ rewrites_ror _⟩
  | .tax | .tsx =>
    ⟨_, rfl, .inherent _ (fun c => computes_ldx _ c) _⟩
  | .tay =>
    ⟨_, rfl, .inherent _ (fun c => computes_ldy _ c) _⟩
  | .txa | .tya =>
    ⟨_, rfl, .inherent _ (fun c => computes_lda _ c) _⟩
  | .txs =>
    ⟨_, rfl, .inherent _ Cpu.txs_move _⟩
  | .nop =>
    ⟨_, rfl, .inherent _ CpuMove.refl _⟩
  | .inx =>
    ⟨_, rfl, .inherent _ Cpu.inx_move _⟩
  | .iny =>
    ⟨_, rfl, .inherent _ Cpu.iny_move _⟩
  | .dex =>
    ⟨_, rfl, .inherent _ Cpu.dex_move _⟩
  | .dey =>
    ⟨_, rfl, .inherent _ Cpu.dey_move _⟩
  | .clc | .sec =>
    ⟨_, rfl, .inherent _ (fun c => CpuMove.flag maskC _ (by decide) c) _⟩
  | .cli | .sei =>
    ⟨_, rfl, .inherent _ (fun c => CpuMove.flag maskI _ (by decide) c) _⟩
  | .cld | .sed =>
    ⟨_, rfl, .inherent _ (fun c => CpuMove.flag maskD _ (by decide) c) _⟩
  | .clv =>
    ⟨_, rfl, .inherent _ (fun c => CpuMove.flag maskV _ (by decide) c) _⟩
  | .bpl _ | .bmi _ | .bvc _ | .bvs _ | .bcc _ | .bcs _ | .bne _ | .beq _ =>
    ⟨_, rfl, .branch _ _ _ _⟩
  | .jmpAbs _ =>
    ⟨_, rfl, .spend _ (.jump _ .start)⟩
  | .jmpInd _ =>
    ⟨_, rfl, .spend _ (.jump _ (.eaInd _ _))⟩
  | .jsrAbs _ =>
    ⟨_, rfl, .spend _ (.jump _ (.pushWord _ .start))⟩
  | .rts =>
    ⟨_, rfl, .spend _ (.jump _ (.pullWord .start))⟩
  | .pha | .php =>
    ⟨_, rfl, .retire _ _ (.push _ .start)⟩
  | .pla =>
    ⟨_, rfl, .retire _ _ (.move _ (.pull .start) (computes_lda _ _))⟩
  | .plp =>
    ⟨_, rfl, .retire _ _ (.move _ (.pull .start) (CpuMove.pullP _ _))⟩
  | .brk =>
    ⟨_, rfl, .spend _ (.enterVector _ _ .start)⟩
  | .rti =>
    ⟨_, rfl, .spend _ (.returnFromInterrupt .start)⟩
  | .illegal02 | .illegal03 | .illegal04 | .illegal07 | .illegal0B | .illegal0C | .illegal0F | .illegal12
  | .illegal13 | .illegal14 | .illegal17 | .illegal1A | .illegal1B | .illegal1C | .illegal1F | .illegal22
  | .illegal23 | .illegal27 | .illegal2B | .illegal2F | .illegal32 | .illegal33 | .illegal34 | .illegal37
  | .illegal3A | .illegal3B | .illegal3C | .illegal3F | .illegal42 | .illegal43 | .illegal44 | .illegal47
  | .illegal4B | .illegal4F | .illegal52 | .illegal53 | .illegal54 | .illegal57 | .illegal5A | .illegal5B
  | .illegal5C | .illegal5F | .illegal62 | .illegal63 | .illegal64 | .illegal67 | .illegal6B | .illegal6F
  | .illegal72 | .illegal73 | .illegal74 | .illegal77 | .illegal7A | .illegal7B | .illegal7C | .illegal7F
  | .illegal80 | .illegal82 | .illegal83 | .illegal87 | .illegal89 | .illegal8B | .illegal8F | .illegal92
  | .illegal93 | .illegal97 | .illegal9B | .illegal9C | .illegal9E | .illegal9F | .illegalA3 | .illegalA7
  | .illegalAB | .illegalAF | .illegalB2 | .illegalB3 | .illegalB7 | .illegalBB | .illegalBF | .illegalC2
  | .illegalC3 | .illegalC7 | .illegalCB | .illegalCF | .illegalD2 | .illegalD3 | .illegalD4 | .illegalD7
  | .illegalDA | .illegalDB | .illegalDC | .illegalDF | .illegalE2 | .illegalE3 | .illegalE7 | .illegalEB
  | .illegalEF | .illegalF2 | .illegalF3 | .illegalF4 | .illegalF7 | .illegalFA | .illegalFB | .illegalFC
  | .illegalFF =>
    ⟨_, rfl, .raiseFatal _ .start⟩

/-- What an instruction's next state is reached by. -/
theorem exec_path {i : Instr} {s t : State} (h : exec i s = .next t) : BusPath s t := by
  obtain ⟨t', ht', hp⟩ := exec_next_path i s
  rw [h] at ht'
  injection ht' with ht'
  exact ht' ▸ hp

end Sys2Proof.Machine
end

