-- ==== Sys2Proof/Laws/PerInstr.lean ====
section
/-! SUPPORT. Statements made once per instruction, about the instruction as it is written: the family OpcodeRow. -/

namespace Sys2Proof.Laws.OpcodeRow

/-- The opcode byte selects the instruction's own row of the matrix: whatever operand bytes follow, the instruction
assembled from it has the same opcode and mnemonic; the format has as many operand bytes as the instruction carries; and
the instruction is legal exactly when it has a mnemonic (R112, R114, R116). -/
def Statement (i : Instr) : Prop :=
  (∀ b1 b2 : Byte, (assemble i.opcode b1 b2).opcode = i.opcode ∧ (assemble i.opcode b1 b2).mnemonic = i.mnemonic) ∧
    operandBytes i.opcode = i.operand.bytes.length ∧ i.wf = i.mnemonic.isSome

/-- The family holds of every instruction, by the laws of the matrix. -/
theorem statement (i : Instr) : Statement i :=
  ⟨fun b1 b2 => ⟨assemble_opcode .., assemble_mnemonic i b1 b2⟩, operandBytes_opcode i, i.wf_eq⟩

theorem brk : Statement .brk := statement _
theorem oraIzx (z : Byte) : Statement (.oraIzx z) := statement _
theorem illegal02 : Statement .illegal02 := statement _
theorem illegal03 : Statement .illegal03 := statement _
theorem illegal04 : Statement .illegal04 := statement _
theorem oraZp (z : Byte) : Statement (.oraZp z) := statement _
theorem aslZp (z : Byte) : Statement (.aslZp z) := statement _
theorem illegal07 : Statement .illegal07 := statement _
theorem php : Statement .php := statement _
theorem oraImm (m : Byte) : Statement (.oraImm m) := statement _
theorem aslAcc : Statement .aslAcc := statement _
theorem illegal0B : Statement .illegal0B := statement _
theorem illegal0C : Statement .illegal0C := statement _
theorem oraAbs (addr : Word) : Statement (.oraAbs addr) := statement _
theorem aslAbs (addr : Word) : Statement (.aslAbs addr) := statement _
theorem illegal0F : Statement .illegal0F := statement _
theorem bpl (off : Byte) : Statement (.bpl off) := statement _
theorem oraIzy (z : Byte) : Statement (.oraIzy z) := statement _
theorem illegal12 : Statement .illegal12 := statement _
theorem illegal13 : Statement .illegal13 := statement _
theorem illegal14 : Statement .illegal14 := statement _
theorem oraZpx (z : Byte) : Statement (.oraZpx z) := statement _
theorem aslZpx (z : Byte) : Statement (.aslZpx z) := statement _
theorem illegal17 : Statement .illegal17 := statement _
theorem clc : Statement .clc := statement _
theorem oraAby (addr : Word) : Statement (.oraAby addr) := statement _
theorem illegal1A : Statement .illegal1A := statement _
theorem illegal1B : Statement .illegal1B := statement _
theorem illegal1C : Statement .illegal1C := statement _
theorem oraAbx (addr : Word) : Statement (.oraAbx addr) := statement _
theorem aslAbx (addr : Word) : Statement (.aslAbx addr) := statement _
theorem illegal1F : Statement .illegal1F := statement _
theorem jsrAbs (addr : Word) : Statement (.jsrAbs addr) := statement _
theorem andIzx (z : Byte) : Statement (.andIzx z) := statement _
theorem illegal22 : Statement .illegal22 := statement _
theorem illegal23 : Statement .illegal23 := statement _
theorem bitZp (z : Byte) : Statement (.bitZp z) := statement _
theorem andZp (z : Byte) : Statement (.andZp z) := statement _
theorem rolZp (z : Byte) : Statement (.rolZp z) := statement _
theorem illegal27 : Statement .illegal27 := statement _
theorem plp : Statement .plp := statement _
theorem andImm (m : Byte) : Statement (.andImm m) := statement _
theorem rolAcc : Statement .rolAcc := statement _
theorem illegal2B : Statement .illegal2B := statement _
theorem bitAbs (addr : Word) : Statement (.bitAbs addr) := statement _
theorem andAbs (addr : Word) : Statement (.andAbs addr) := statement _
theorem rolAbs (addr : Word) : Statement (.rolAbs addr) := statement _
theorem illegal2F : Statement .illegal2F := statement _
theorem bmi (off : Byte) : Statement (.bmi off) := statement _
theorem andIzy (z : Byte) : Statement (.andIzy z) := statement _
theorem illegal32 : Statement .illegal32 := statement _
theorem illegal33 : Statement .illegal33 := statement _
theorem illegal34 : Statement .illegal34 := statement _
theorem andZpx (z : Byte) : Statement (.andZpx z) := statement _
theorem rolZpx (z : Byte) : Statement (.rolZpx z) := statement _
theorem illegal37 : Statement .illegal37 := statement _
theorem sec : Statement .sec := statement _
theorem andAby (addr : Word) : Statement (.andAby addr) := statement _
theorem illegal3A : Statement .illegal3A := statement _
theorem illegal3B : Statement .illegal3B := statement _
theorem illegal3C : Statement .illegal3C := statement _
theorem andAbx (addr : Word) : Statement (.andAbx addr) := statement _
theorem rolAbx (addr : Word) : Statement (.rolAbx addr) := statement _
theorem illegal3F : Statement .illegal3F := statement _
theorem rti : Statement .rti := statement _
theorem eorIzx (z : Byte) : Statement (.eorIzx z) := statement _
theorem illegal42 : Statement .illegal42 := statement _
theorem illegal43 : Statement .illegal43 := statement _
theorem illegal44 : Statement .illegal44 := statement _
theorem eorZp (z : Byte) : Statement (.eorZp z) := statement _
theorem lsrZp (z : Byte) : Statement (.lsrZp z) := statement _
theorem illegal47 : Statement .illegal47 := statement _
theorem pha : Statement .pha := statement _
theorem eorImm (m : Byte) : Statement (.eorImm m) := statement _
theorem lsrAcc : Statement .lsrAcc := statement _
theorem illegal4B : Statement .illegal4B := statement _
theorem jmpAbs (addr : Word) : Statement (.jmpAbs addr) := statement _
theorem eorAbs (addr : Word) : Statement (.eorAbs addr) := statement _
theorem lsrAbs (addr : Word) : Statement (.lsrAbs addr) := statement _
theorem illegal4F : Statement .illegal4F := statement _
theorem bvc (off : Byte) : Statement (.bvc off) := statement _
theorem eorIzy (z : Byte) : Statement (.eorIzy z) := statement _
theorem illegal52 : Statement .illegal52 := statement _
theorem illegal53 : Statement .illegal53 := statement _
theorem illegal54 : Statement .illegal54 := statement _
theorem eorZpx (z : Byte) : Statement (.eorZpx z) := statement _
theorem lsrZpx (z : Byte) : Statement (.lsrZpx z) := statement _
theorem illegal57 : Statement .illegal57 := statement _
theorem cli : Statement .cli := statement _
theorem eorAby (addr : Word) : Statement (.eorAby addr) := statement _
theorem illegal5A : Statement .illegal5A := statement _
theorem illegal5B : Statement .illegal5B := statement _
theorem illegal5C : Statement .illegal5C := statement _
theorem eorAbx (addr : Word) : Statement (.eorAbx addr) := statement _
theorem lsrAbx (addr : Word) : Statement (.lsrAbx addr) := statement _
theorem illegal5F : Statement .illegal5F := statement _
theorem rts : Statement .rts := statement _
theorem adcIzx (z : Byte) : Statement (.adcIzx z) := statement _
theorem illegal62 : Statement .illegal62 := statement _
theorem illegal63 : Statement .illegal63 := statement _
theorem illegal64 : Statement .illegal64 := statement _
theorem adcZp (z : Byte) : Statement (.adcZp z) := statement _
theorem rorZp (z : Byte) : Statement (.rorZp z) := statement _
theorem illegal67 : Statement .illegal67 := statement _
theorem pla : Statement .pla := statement _
theorem adcImm (m : Byte) : Statement (.adcImm m) := statement _
theorem rorAcc : Statement .rorAcc := statement _
theorem illegal6B : Statement .illegal6B := statement _
theorem jmpInd (addr : Word) : Statement (.jmpInd addr) := statement _
theorem adcAbs (addr : Word) : Statement (.adcAbs addr) := statement _
theorem rorAbs (addr : Word) : Statement (.rorAbs addr) := statement _
theorem illegal6F : Statement .illegal6F := statement _
theorem bvs (off : Byte) : Statement (.bvs off) := statement _
theorem adcIzy (z : Byte) : Statement (.adcIzy z) := statement _
theorem illegal72 : Statement .illegal72 := statement _
theorem illegal73 : Statement .illegal73 := statement _
theorem illegal74 : Statement .illegal74 := statement _
theorem adcZpx (z : Byte) : Statement (.adcZpx z) := statement _
theorem rorZpx (z : Byte) : Statement (.rorZpx z) := statement _
theorem illegal77 : Statement .illegal77 := statement _
theorem sei : Statement .sei := statement _
theorem adcAby (addr : Word) : Statement (.adcAby addr) := statement _
theorem illegal7A : Statement .illegal7A := statement _
theorem illegal7B : Statement .illegal7B := statement _
theorem illegal7C : Statement .illegal7C := statement _
theorem adcAbx (addr : Word) : Statement (.adcAbx addr) := statement _
theorem rorAbx (addr : Word) : Statement (.rorAbx addr) := statement _
theorem illegal7F : Statement .illegal7F := statement _
theorem illegal80 : Statement .illegal80 := statement _
theorem staIzx (z : Byte) : Statement (.staIzx z) := statement _
theorem illegal82 : Statement .illegal82 := statement _
theorem illegal83 : Statement .illegal83 := statement _
theorem styZp (z : Byte) : Statement (.styZp z) := statement _
theorem staZp (z : Byte) : Statement (.staZp z) := statement _
theorem stxZp (z : Byte) : Statement (.stxZp z) := statement _
theorem illegal87 : Statement .illegal87 := statement _
theorem dey : Statement .dey := statement _
theorem illegal89 : Statement .illegal89 := statement _
theorem txa : Statement .txa := statement _
theorem illegal8B : Statement .illegal8B := statement _
theorem styAbs (addr : Word) : Statement (.styAbs addr) := statement _
theorem staAbs (addr : Word) : Statement (.staAbs addr) := statement _
theorem stxAbs (addr : Word) : Statement (.stxAbs addr) := statement _
theorem illegal8F : Statement .illegal8F := statement _
theorem bcc (off : Byte) : Statement (.bcc off) := statement _
theorem staIzy (z : Byte) : Statement (.staIzy z) := statement _
theorem illegal92 : Statement .illegal92 := statement _
theorem illegal93 : Statement .illegal93 := statement _
theorem styZpx (z : Byte) : Statement (.styZpx z) := statement _
theorem staZpx (z : Byte) : Statement (.staZpx z) := statement _
theorem stxZpy (z : Byte) : Statement (.stxZpy z) := statement _
theorem illegal97 : Statement .illegal97 := statement _
theorem tya : Statement .tya := statement _
theorem staAby (addr : Word) : Statement (.staAby addr) := statement _
theorem txs : Statement .txs := statement _
theorem illegal9B : Statement .illegal9B := statement _
theorem illegal9C : Statement .illegal9C := statement _
theorem staAbx (addr : Word) : Statement (.staAbx addr) := statement _
theorem illegal9E : Statement .illegal9E := statement _
theorem illegal9F : Statement .illegal9F := statement _
theorem ldyImm (m : Byte) : Statement (.ldyImm m) := statement _
theorem ldaIzx (z : Byte) : Statement (.ldaIzx z) := statement _
theorem ldxImm (m : Byte) : Statement (.ldxImm m) := statement _
theorem illegalA3 : Statement .illegalA3 := statement _
theorem ldyZp (z : Byte) : Statement (.ldyZp z) := statement _
theorem ldaZp (z : Byte) : Statement (.ldaZp z) := statement _
theorem ldxZp (z : Byte) : Statement (.ldxZp z) := statement _
theorem illegalA7 : Statement .illegalA7 := statement _
theorem tay : Statement .tay := statement _
theorem ldaImm (m : Byte) : Statement (.ldaImm m) := statement _
theorem tax : Statement .tax := statement _
theorem illegalAB : Statement .illegalAB := statement _
theorem ldyAbs (addr : Word) : Statement (.ldyAbs addr) := statement _
theorem ldaAbs (addr : Word) : Statement (.ldaAbs addr) := statement _
theorem ldxAbs (addr : Word) : Statement (.ldxAbs addr) := statement _
theorem illegalAF : Statement .illegalAF := statement _
theorem bcs (off : Byte) : Statement (.bcs off) := statement _
theorem ldaIzy (z : Byte) : Statement (.ldaIzy z) := statement _
theorem illegalB2 : Statement .illegalB2 := statement _
theorem illegalB3 : Statement .illegalB3 := statement _
theorem ldyZpx (z : Byte) : Statement (.ldyZpx z) := statement _
theorem ldaZpx (z : Byte) : Statement (.ldaZpx z) := statement _
theorem ldxZpy (z : Byte) : Statement (.ldxZpy z) := statement _
theorem illegalB7 : Statement .illegalB7 := statement _
theorem clv : Statement .clv := statement _
theorem ldaAby (addr : Word) : Statement (.ldaAby addr) := statement _
theorem tsx : Statement .tsx := statement _
theorem illegalBB : Statement .illegalBB := statement _
theorem ldyAbx (addr : Word) : Statement (.ldyAbx addr) := statement _
theorem ldaAbx (addr : Word) : Statement (.ldaAbx addr) := statement _
theorem ldxAby (addr : Word) : Statement (.ldxAby addr) := statement _
theorem illegalBF : Statement .illegalBF := statement _
theorem cpyImm (m : Byte) : Statement (.cpyImm m) := statement _
theorem cmpIzx (z : Byte) : Statement (.cmpIzx z) := statement _
theorem illegalC2 : Statement .illegalC2 := statement _
theorem illegalC3 : Statement .illegalC3 := statement _
theorem cpyZp (z : Byte) : Statement (.cpyZp z) := statement _
theorem cmpZp (z : Byte) : Statement (.cmpZp z) := statement _
theorem decZp (z : Byte) : Statement (.decZp z) := statement _
theorem illegalC7 : Statement .illegalC7 := statement _
theorem iny : Statement .iny := statement _
theorem cmpImm (m : Byte) : Statement (.cmpImm m) := statement _
theorem dex : Statement .dex := statement _
theorem illegalCB : Statement .illegalCB := statement _
theorem cpyAbs (addr : Word) : Statement (.cpyAbs addr) := statement _
theorem cmpAbs (addr : Word) : Statement (.cmpAbs addr) := statement _
theorem decAbs (addr : Word) : Statement (.decAbs addr) := statement _
theorem illegalCF : Statement .illegalCF := statement _
theorem bne (off : Byte) : Statement (.bne off) := statement _
theorem cmpIzy (z : Byte) : Statement (.cmpIzy z) := statement _
theorem illegalD2 : Statement .illegalD2 := statement _
theorem illegalD3 : Statement .illegalD3 := statement _
theorem illegalD4 : Statement .illegalD4 := statement _
theorem cmpZpx (z : Byte) : Statement (.cmpZpx z) := statement _
theorem decZpx (z : Byte) : Statement (.decZpx z) := statement _
theorem illegalD7 : Statement .illegalD7 := statement _
theorem cld : Statement .cld := statement _
theorem cmpAby (addr : Word) : Statement (.cmpAby addr) := statement _
theorem illegalDA : Statement .illegalDA := statement _
theorem illegalDB : Statement .illegalDB := statement _
theorem illegalDC : Statement .illegalDC := statement _
theorem cmpAbx (addr : Word) : Statement (.cmpAbx addr) := statement _
theorem decAbx (addr : Word) : Statement (.decAbx addr) := statement _
theorem illegalDF : Statement .illegalDF := statement _
theorem cpxImm (m : Byte) : Statement (.cpxImm m) := statement _
theorem sbcIzx (z : Byte) : Statement (.sbcIzx z) := statement _
theorem illegalE2 : Statement .illegalE2 := statement _
theorem illegalE3 : Statement .illegalE3 := statement _
theorem cpxZp (z : Byte) : Statement (.cpxZp z) := statement _
theorem sbcZp (z : Byte) : Statement (.sbcZp z) := statement _
theorem incZp (z : Byte) : Statement (.incZp z) := statement _
theorem illegalE7 : Statement .illegalE7 := statement _
theorem inx : Statement .inx := statement _
theorem sbcImm (m : Byte) : Statement (.sbcImm m) := statement _
theorem nop : Statement .nop := statement _
theorem illegalEB : Statement .illegalEB := statement _
theorem cpxAbs (addr : Word) : Statement (.cpxAbs addr) := statement _
theorem sbcAbs (addr : Word) : Statement (.sbcAbs addr) := statement _
theorem incAbs (addr : Word) : Statement (.incAbs addr) := statement _
theorem illegalEF : Statement .illegalEF := statement _
theorem beq (off : Byte) : Statement (.beq off) := statement _
theorem sbcIzy (z : Byte) : Statement (.sbcIzy z) := statement _
theorem illegalF2 : Statement .illegalF2 := statement _
theorem illegalF3 : Statement .illegalF3 := statement _
theorem illegalF4 : Statement .illegalF4 := statement _
theorem sbcZpx (z : Byte) : Statement (.sbcZpx z) := statement _
theorem incZpx (z : Byte) : Statement (.incZpx z) := statement _
theorem illegalF7 : Statement .illegalF7 := statement _
theorem sed : Statement .sed := statement _
theorem sbcAby (addr : Word) : Statement (.sbcAby addr) := statement _
theorem illegalFA : Statement .illegalFA := statement _
theorem illegalFB : Statement .illegalFB := statement _
theorem illegalFC : Statement .illegalFC := statement _
theorem sbcAbx (addr : Word) : Statement (.sbcAbx addr) := statement _
theorem incAbx (addr : Word) : Statement (.incAbx addr) := statement _
theorem illegalFF : Statement .illegalFF := statement _

end Sys2Proof.Laws.OpcodeRow
end

