-- ==== Sys2Proof/Laws/Ppu.lean ====
section
/-! SUPPORT. The laws of the PPU's dot: what one dot and a run of dots can do, and how the coordinate advances. -/

namespace Sys2Proof.Machine

/-- The position of a coordinate in the order the 89342 dots of a frame are visited (R300). -/
def Ppu.position (p : Ppu) : Nat := p.sl * 341 + p.dot

@[simp] theorem Ppu.tick_dot (p : Ppu) : p.tick.1.dot = if 340 ≤ p.dot then 0 else p.dot + 1 := rfl

@[simp] theorem Ppu.tick_sl (p : Ppu) :
    p.tick.1.sl = if 340 ≤ p.dot then (if p.sl = 261 then 0 else p.sl + 1) else p.sl := rfl

@[simp] theorem Ppu.tick_vram (p : Ppu) : p.tick.1.vram = p.vram := rfl
@[simp] theorem Ppu.tick_ctrl (p : Ppu) : p.tick.1.ctrl = p.ctrl := rfl
@[simp] theorem Ppu.tick_fx (p : Ppu) : p.tick.1.fx = p.fx := rfl
@[simp] theorem Ppu.tick_fb (p : Ppu) : p.tick.1.fb = if p.isAt 0 0 then p.renderFrame else p.fb := rfl

@[simp] theorem Ppu.tick_framesRaised (p : Ppu) :
    p.tick.1.framesRaised = if p.isAt 0 0 then p.framesRaised + 1 else p.framesRaised := rfl

theorem Ppu.isAt_iff (line dot : Nat) (p : Ppu) : p.isAt line dot = true ↔ p.sl = line ∧ p.dot = dot := by
  simp [Ppu.isAt]

/-- The counters stay in range (R40, R41). -/
theorem Ppu.tick_inRange {p : Ppu} (h : p.sl ≤ 261 ∧ p.dot ≤ 340) : p.tick.1.sl ≤ 261 ∧ p.tick.1.dot ≤ 340 := by
  rw [Ppu.tick_sl, Ppu.tick_dot]
  split_ifs <;> omega

/-- A dot moves the coordinate one position on, from the last position of the frame to the first (R300, R309). -/
theorem Ppu.tick_position {p : Ppu} (h : p.sl ≤ 261 ∧ p.dot ≤ 340) :
    p.tick.1.position = (p.position + 1) % 89342 := by
  simp only [Ppu.position, Ppu.tick_sl, Ppu.tick_dot]
  obtain ⟨hs, hd⟩ := h
  split_ifs with hw hl
  · have e : p.sl * 341 + p.dot + 1 = 89342 := by omega
    rw [e, Nat.mod_self]
  · rw [Nat.mod_eq_of_lt (by omega)]; omega
  · rw [Nat.mod_eq_of_lt (by omega)]; omega

/-- The status register keeps to its two values (R50). -/
theorem Ppu.tick_status {p : Ppu} (h : p.status = 0x00#8 ∨ p.status = 0x80#8) :
    p.tick.1.status = 0x00#8 ∨ p.tick.1.status = 0x80#8 := by
  simp only [Ppu.tick, Ppu.advance_status, Ppu.disarm_status, Ppu.events, Ppu.vblankEnd, Ppu.vblankStart, Ppu.frameEvent]
  rcases h with h | h <;> split_ifs <;> simp [h, vblankMask, spriteOverflowMask]

/-- A frame rendered has its 61440 pixels (R323). -/
@[simp] theorem Ppu.renderFrame_length (p : Ppu) : p.renderFrame.length = fbPixels := by
  simp [Ppu.renderFrame]

/-- A dot that raises an NMI disarms `NMIOUT`, and one that does not keeps it (R308). -/
theorem Ppu.tick_nmiOut (p : Ppu) : p.tick.1.nmiOut = if p.tick.2 then false else p.nmiOut := rfl

/-- An NMI is raised only while `NMIOUT` is 1 (R308). -/
theorem Ppu.nmiOut_of_tick {p : Ppu} (h : p.tick.2 = true) : p.nmiOut = true := by
  have : p.events.nmiDue = true := h
  simpa using (Bool.and_eq_true_iff.mp this).2

/-! Runs of dots. -/

theorem runDots_succ (n : Nat) (s : State) : runDots (n + 1) s = runDots n (ppuStep s) := rfl

@[simp] theorem runDots_mem (n : Nat) (s : State) : (runDots n s).mem = s.mem := by
  induction n generalizing s with
  | zero => rfl
  | succ n ih => rw [runDots_succ, ih, ppuStep_mem]

@[simp] theorem runDots_pad (n : Nat) (s : State) : (runDots n s).pad = s.pad := by
  induction n generalizing s with
  | zero => rfl
  | succ n ih => rw [runDots_succ, ih, ppuStep_pad]

@[simp] theorem runDots_inbox (n : Nat) (s : State) : (runDots n s).inbox = s.inbox := by
  induction n generalizing s with
  | zero => rfl
  | succ n ih => rw [runDots_succ, ih, ppuStep_inbox]

/-- Dots touch the CPU only in `IQ` (R302). -/
theorem runDots_cpu (n : Nat) (s : State) : (runDots n s).cpu = { s.cpu with iq := (runDots n s).cpu.iq } := by
  induction n generalizing s with
  | zero => rfl
  | succ n ih => rw [runDots_succ, ih, ppuStep_cpu]

/-- What every dot keeps, a run of dots keeps. -/
theorem runDots_keeps {P : State → Prop} (h : ∀ s, P s → P (ppuStep s)) (n : Nat) {s : State} (hs : P s) :
    P (runDots n s) := by
  induction n generalizing s with
  | zero => exact hs
  | succ n ih => exact ih (h s hs)

theorem runDots_add (m n : Nat) (s : State) : runDots (m + n) s = runDots n (runDots m s) := by
  induction m generalizing s with
  | zero => rw [Nat.zero_add]; rfl
  | succ m ih => rw [Nat.succ_add, runDots_succ, ih, runDots_succ]

/-- `n` dots move the coordinate `n` positions on (R300). -/
theorem runDots_position (n : Nat) {s : State} (h : s.ppu.sl ≤ 261 ∧ s.ppu.dot ≤ 340) :
    (runDots n s).ppu.position = (s.ppu.position + n) % 89342 := by
  induction n generalizing s with
  | zero =>
    have : s.ppu.position < 89342 := by unfold Ppu.position; omega
    rw [Nat.add_zero, Nat.mod_eq_of_lt this, runDots]
  | succ n ih =>
    rw [runDots_succ, ih (Ppu.tick_inRange h), ppuStep_ppu, Ppu.tick_position h, Nat.mod_add_mod, Nat.add_assoc,
      Nat.add_comm 1]

end Sys2Proof.Machine
end

