-- ==== Sys2Proof/Laws/Step.lean ====
section
/-! SUPPORT. What one CPU step is, said once: the service of the pending interrupt, or `exec` of the instruction the fetch
answers. The test of `LEGAL_OPCODES` in `cpuStep` agrees with the gaps' own meanings, so that no claim has to split on it. -/

namespace Sys2Proof.Machine

/-- A byte that `LEGAL_OPCODES` leaves out has no mnemonic and no operand byte (R121). -/
theorem illegal_row : ∀ op : Byte, (assemble op 0x00#8 0x00#8).mnemonic = none → operandBytes op = 0 := by decide

/-- A pending interrupt is the whole CPU step (R167, R414). -/
theorem cpuStep_pending {s : State} {k : IntKind} {rest : List IntKind} (h : s.cpu.iq = k :: rest) :
    cpuStep s = .next (serviceInterrupt k s) := by simp [cpuStep, h]

/-- With nothing pending the CPU step is the instruction fetched at `PC`, a gap included (R167, R121). -/
theorem cpuStep_idle {s : State} (h : s.cpu.iq = []) : cpuStep s = exec (fetch s).1 (fetch s).2 := by
  by_cases hl : isLegal (fetchByte 0#16 s).1 = true
  · simp [cpuStep, h, hl]
  · have hm : (assemble (fetchByte 0#16 s).1 0x00#8 0x00#8).mnemonic = none := by simpa [isLegal_eq] using hl
    have hx := exec_gap hm (fetchByte 0#16 s).2
    rw [assemble_opcode] at hx
    simp only [cpuStep, h, hl, fetch, illegal_row _ hm, hx]
    rfl

end Sys2Proof.Machine
end

