-- ==== Sys2Proof/Tests/Slice0.lean ====
section
/-! SUPPORT. Tests of the model: the well-formedness smoke, one word of the opcode table per constructor, vectors of
spec/95_test_vectors.md (the id stands in the theorem's name; each runs one CPU step from the vector's start state), and for
every statement with hypotheses a concrete case that meets them. -/

namespace Sys2Proof.Machine

/-! Well-formedness. The one check refuses the gaps. -/

theorem test_wf_refuses_a_gap : Instr.wf .illegal02 = false := by decide
theorem test_wf_accepts_brk : Instr.wf .brk = true := by decide

/-! Decoding. The words are the rows of spec/opcode_table.json: the opcode byte in bits 7 to 0, then the operand bytes
0x5A, or 0x34 and 0x12. -/

/-- Each word decodes, over its number of bits, to the instruction beside it. -/
def decodesTo (rows : List (Nat × Nat × Instr)) : Bool := rows.all fun r => decodeTableWord r.1 r.2.1 == some r.2.2

theorem test_decode_loads_1 : decodesTo [
    (16, 0x5AA0, .ldyImm 0x5A#8), (16, 0x5AA1, .ldaIzx 0x5A#8), (16, 0x5AA2, .ldxImm 0x5A#8),
    (16, 0x5AA4, .ldyZp 0x5A#8), (16, 0x5AA5, .ldaZp 0x5A#8), (16, 0x5AA6, .ldxZp 0x5A#8),
    (16, 0x5AA9, .ldaImm 0x5A#8), (24, 0x1234AC, .ldyAbs 0x1234#16), (24, 0x1234AD, .ldaAbs 0x1234#16),
    (24, 0x1234AE, .ldxAbs 0x1234#16), (16, 0x5AB1, .ldaIzy 0x5A#8), (16, 0x5AB4, .ldyZpx 0x5A#8)] = true := by decide

theorem test_decode_loads_2 : decodesTo [
    (16, 0x5AB5, .ldaZpx 0x5A#8), (16, 0x5AB6, .ldxZpy 0x5A#8), (24, 0x1234B9, .ldaAby 0x1234#16),
    (24, 0x1234BC, .ldyAbx 0x1234#16), (24, 0x1234BD, .ldaAbx 0x1234#16), (24, 0x1234BE, .ldxAby 0x1234#16)] = true := by decide

theorem test_decode_stores_1 : decodesTo [
    (16, 0x5A81, .staIzx 0x5A#8), (16, 0x5A84, .styZp 0x5A#8), (16, 0x5A85, .staZp 0x5A#8),
    (16, 0x5A86, .stxZp 0x5A#8), (24, 0x12348C, .styAbs 0x1234#16), (24, 0x12348D, .staAbs 0x1234#16),
    (24, 0x12348E, .stxAbs 0x1234#16), (16, 0x5A91, .staIzy 0x5A#8), (16, 0x5A94, .styZpx 0x5A#8),
    (16, 0x5A95, .staZpx 0x5A#8), (16, 0x5A96, .stxZpy 0x5A#8), (24, 0x123499, .staAby 0x1234#16)] = true := by decide

theorem test_decode_stores_2 : decodesTo [
    (24, 0x12349D, .staAbx 0x1234#16)] = true := by decide

theorem test_decode_transfers : decodesTo [
    (8, 0x8A, .txa), (8, 0x98, .tya), (8, 0x9A, .txs), (8, 0xA8, .tay), (8, 0xAA, .tax), (8, 0xBA, .tsx)] = true := by decide

theorem test_decode_addition_1 : decodesTo [
    (16, 0x5A61, .adcIzx 0x5A#8), (16, 0x5A65, .adcZp 0x5A#8), (16, 0x5A69, .adcImm 0x5A#8),
    (24, 0x12346D, .adcAbs 0x1234#16), (16, 0x5A71, .adcIzy 0x5A#8), (16, 0x5A75, .adcZpx 0x5A#8),
    (24, 0x123479, .adcAby 0x1234#16), (24, 0x12347D, .adcAbx 0x1234#16), (16, 0x5AE1, .sbcIzx 0x5A#8),
    (16, 0x5AE5, .sbcZp 0x5A#8), (16, 0x5AE9, .sbcImm 0x5A#8), (24, 0x1234ED, .sbcAbs 0x1234#16)] = true := by decide

theorem test_decode_addition_2 : decodesTo [
    (16, 0x5AF1, .sbcIzy 0x5A#8), (16, 0x5AF5, .sbcZpx 0x5A#8), (24, 0x1234F9, .sbcAby 0x1234#16),
    (24, 0x1234FD, .sbcAbx 0x1234#16)] = true := by decide

theorem test_decode_logic_1 : decodesTo [
    (16, 0x5A01, .oraIzx 0x5A#8), (16, 0x5A05, .oraZp 0x5A#8), (16, 0x5A09, .oraImm 0x5A#8),
    (24, 0x12340D, .oraAbs 0x1234#16), (16, 0x5A11, .oraIzy 0x5A#8), (16, 0x5A15, .oraZpx 0x5A#8),
    (24, 0x123419, .oraAby 0x1234#16), (24, 0x12341D, .oraAbx 0x1234#16), (16, 0x5A21, .andIzx 0x5A#8),
    (16, 0x5A25, .andZp 0x5A#8), (16, 0x5A29, .andImm 0x5A#8), (24, 0x12342D, .andAbs 0x1234#16)] = true := by decide

theorem test_decode_logic_2 : decodesTo [
    (16, 0x5A31, .andIzy 0x5A#8), (16, 0x5A35, .andZpx 0x5A#8), (24, 0x123439, .andAby 0x1234#16),
    (24, 0x12343D, .andAbx 0x1234#16), (16, 0x5A41, .eorIzx 0x5A#8), (16, 0x5A45, .eorZp 0x5A#8),
    (16, 0x5A49, .eorImm 0x5A#8), (24, 0x12344D, .eorAbs 0x1234#16), (16, 0x5A51, .eorIzy 0x5A#8),
    (16, 0x5A55, .eorZpx 0x5A#8), (24, 0x123459, .eorAby 0x1234#16), (24, 0x12345D, .eorAbx 0x1234#16)] = true := by decide

theorem test_decode_compares_1 : decodesTo [
    (16, 0x5A24, .bitZp 0x5A#8), (24, 0x12342C, .bitAbs 0x1234#16), (16, 0x5AC0, .cpyImm 0x5A#8),
    (16, 0x5AC1, .cmpIzx 0x5A#8), (16, 0x5AC4, .cpyZp 0x5A#8), (16, 0x5AC5, .cmpZp 0x5A#8),
    (16, 0x5AC9, .cmpImm 0x5A#8), (24, 0x1234CC, .cpyAbs 0x1234#16), (24, 0x1234CD, .cmpAbs 0x1234#16),
    (16, 0x5AD1, .cmpIzy 0x5A#8), (16, 0x5AD5, .cmpZpx 0x5A#8), (24, 0x1234D9, .cmpAby 0x1234#16)] = true := by decide

theorem test_decode_compares_2 : decodesTo [
    (24, 0x1234DD, .cmpAbx 0x1234#16), (16, 0x5AE0, .cpxImm 0x5A#8), (16, 0x5AE4, .cpxZp 0x5A#8),
    (24, 0x1234EC, .cpxAbs 0x1234#16)] = true := by decide

theorem test_decode_counts : decodesTo [
    (8, 0x88, .dey), (16, 0x5AC6, .decZp 0x5A#8), (8, 0xC8, .iny), (8, 0xCA, .dex), (24, 0x1234CE, .decAbs 0x1234#16),
    (16, 0x5AD6, .decZpx 0x5A#8), (24, 0x1234DE, .decAbx 0x1234#16), (16, 0x5AE6, .incZp 0x5A#8), (8, 0xE8, .inx),
    (24, 0x1234EE, .incAbs 0x1234#16), (16, 0x5AF6, .incZpx 0x5A#8), (24, 0x1234FE, .incAbx 0x1234#16)] = true := by decide

theorem test_decode_shifts_1 : decodesTo [
    (16, 0x5A06, .aslZp 0x5A#8), (8, 0x0A, .aslAcc), (24, 0x12340E, .aslAbs 0x1234#16), (16, 0x5A16, .aslZpx 0x5A#8),
    (24, 0x12341E, .aslAbx 0x1234#16), (16, 0x5A26, .rolZp 0x5A#8), (8, 0x2A, .rolAcc),
    (24, 0x12342E, .rolAbs 0x1234#16), (16, 0x5A36, .rolZpx 0x5A#8), (24, 0x12343E, .rolAbx 0x1234#16),
    (16, 0x5A46, .lsrZp 0x5A#8), (8, 0x4A, .lsrAcc)] = true := by decide

theorem test_decode_shifts_2 : decodesTo [
    (24, 0x12344E, .lsrAbs 0x1234#16), (16, 0x5A56, .lsrZpx 0x5A#8), (24, 0x12345E, .lsrAbx 0x1234#16),
    (16, 0x5A66, .rorZp 0x5A#8), (8, 0x6A, .rorAcc), (24, 0x12346E, .rorAbs 0x1234#16), (16, 0x5A76, .rorZpx 0x5A#8),
    (24, 0x12347E, .rorAbx 0x1234#16)] = true := by decide

theorem test_decode_branches : decodesTo [
    (16, 0x5A10, .bpl 0x5A#8), (16, 0x5A30, .bmi 0x5A#8), (16, 0x5A50, .bvc 0x5A#8), (16, 0x5A70, .bvs 0x5A#8),
    (16, 0x5A90, .bcc 0x5A#8), (16, 0x5AB0, .bcs 0x5A#8), (16, 0x5AD0, .bne 0x5A#8), (16, 0x5AF0, .beq 0x5A#8)] = true := by decide

theorem test_decode_jumps : decodesTo [
    (24, 0x123420, .jsrAbs 0x1234#16), (24, 0x12344C, .jmpAbs 0x1234#16), (8, 0x60, .rts),
    (24, 0x12346C, .jmpInd 0x1234#16)] = true := by decide

theorem test_decode_system_1 : decodesTo [
    (8, 0x00, .brk), (8, 0x08, .php), (8, 0x18, .clc), (8, 0x28, .plp), (8, 0x38, .sec), (8, 0x40, .rti),
    (8, 0x48, .pha), (8, 0x58, .cli), (8, 0x68, .pla), (8, 0x78, .sei), (8, 0xB8, .clv), (8, 0xD8, .cld)] = true := by decide

theorem test_decode_system_2 : decodesTo [
    (8, 0xEA, .nop), (8, 0xF8, .sed)] = true := by decide

theorem test_decode_gaps_1 : decodesTo [
    (8, 0x02, .illegal02), (8, 0x03, .illegal03), (8, 0x04, .illegal04), (8, 0x07, .illegal07), (8, 0x0B, .illegal0B),
    (8, 0x0C, .illegal0C), (8, 0x0F, .illegal0F), (8, 0x12, .illegal12), (8, 0x13, .illegal13), (8, 0x14, .illegal14),
    (8, 0x17, .illegal17), (8, 0x1A, .illegal1A), (8, 0x1B, .illegal1B), (8, 0x1C, .illegal1C), (8, 0x1F, .illegal1F)] = true := by decide

theorem test_decode_gaps_2 : decodesTo [
    (8, 0x22, .illegal22), (8, 0x23, .illegal23), (8, 0x27, .illegal27), (8, 0x2B, .illegal2B), (8, 0x2F, .illegal2F),
    (8, 0x32, .illegal32), (8, 0x33, .illegal33), (8, 0x34, .illegal34), (8, 0x37, .illegal37), (8, 0x3A, .illegal3A),
    (8, 0x3B, .illegal3B), (8, 0x3C, .illegal3C), (8, 0x3F, .illegal3F), (8, 0x42, .illegal42), (8, 0x43, .illegal43)] = true := by decide

theorem test_decode_gaps_3 : decodesTo [
    (8, 0x44, .illegal44), (8, 0x47, .illegal47), (8, 0x4B, .illegal4B), (8, 0x4F, .illegal4F), (8, 0x52, .illegal52),
    (8, 0x53, .illegal53), (8, 0x54, .illegal54), (8, 0x57, .illegal57), (8, 0x5A, .illegal5A), (8, 0x5B, .illegal5B),
    (8, 0x5C, .illegal5C), (8, 0x5F, .illegal5F), (8, 0x62, .illegal62), (8, 0x63, .illegal63), (8, 0x64, .illegal64)] = true := by decide

theorem test_decode_gaps_4 : decodesTo [
    (8, 0x67, .illegal67), (8, 0x6B, .illegal6B), (8, 0x6F, .illegal6F), (8, 0x72, .illegal72), (8, 0x73, .illegal73),
    (8, 0x74, .illegal74), (8, 0x77, .illegal77), (8, 0x7A, .illegal7A), (8, 0x7B, .illegal7B), (8, 0x7C, .illegal7C),
    (8, 0x7F, .illegal7F), (8, 0x80, .illegal80), (8, 0x82, .illegal82), (8, 0x83, .illegal83), (8, 0x87, .illegal87)] = true := by decide

theorem test_decode_gaps_5 : decodesTo [
    (8, 0x89, .illegal89), (8, 0x8B, .illegal8B), (8, 0x8F, .illegal8F), (8, 0x92, .illegal92), (8, 0x93, .illegal93),
    (8, 0x97, .illegal97), (8, 0x9B, .illegal9B), (8, 0x9C, .illegal9C), (8, 0x9E, .illegal9E), (8, 0x9F, .illegal9F),
    (8, 0xA3, .illegalA3), (8, 0xA7, .illegalA7), (8, 0xAB, .illegalAB), (8, 0xAF, .illegalAF), (8, 0xB2, .illegalB2)] = true := by decide

theorem test_decode_gaps_6 : decodesTo [
    (8, 0xB3, .illegalB3), (8, 0xB7, .illegalB7), (8, 0xBB, .illegalBB), (8, 0xBF, .illegalBF), (8, 0xC2, .illegalC2),
    (8, 0xC3, .illegalC3), (8, 0xC7, .illegalC7), (8, 0xCB, .illegalCB), (8, 0xCF, .illegalCF), (8, 0xD2, .illegalD2),
    (8, 0xD3, .illegalD3), (8, 0xD4, .illegalD4), (8, 0xD7, .illegalD7), (8, 0xDA, .illegalDA), (8, 0xDB, .illegalDB)] = true := by decide

theorem test_decode_gaps_7 : decodesTo [
    (8, 0xDC, .illegalDC), (8, 0xDF, .illegalDF), (8, 0xE2, .illegalE2), (8, 0xE3, .illegalE3), (8, 0xE7, .illegalE7),
    (8, 0xEB, .illegalEB), (8, 0xEF, .illegalEF), (8, 0xF2, .illegalF2), (8, 0xF3, .illegalF3), (8, 0xF4, .illegalF4),
    (8, 0xF7, .illegalF7), (8, 0xFA, .illegalFA), (8, 0xFB, .illegalFB), (8, 0xFC, .illegalFC), (8, 0xFF, .illegalFF)] = true := by decide

/-! One word of each family bit by bit, from the encoding column of the table. -/

theorem test_bits_ldaImm : decode [0b10101001#8, 0b11110000#8] = .ok (.ldaImm 0xF0#8, []) := by decide
theorem test_bits_staAbs : decode [0b10001101#8, 0b11111111#8, 0b00000010#8] = .ok (.staAbs 0x02FF#16, []) := by decide
theorem test_bits_tax : decode [0b10101010#8] = .ok (.tax, []) := by decide
theorem test_bits_adcIzy : decode [0b01110001#8, 0b11110000#8] = .ok (.adcIzy 0xF0#8, []) := by decide
theorem test_bits_eorZpx : decode [0b01010101#8, 0b11110000#8] = .ok (.eorZpx 0xF0#8, []) := by decide
theorem test_bits_cpyZp : decode [0b11000100#8, 0b11110000#8] = .ok (.cpyZp 0xF0#8, []) := by decide
theorem test_bits_decAbx : decode [0b11011110#8, 0b11111111#8, 0b00000010#8] = .ok (.decAbx 0x02FF#16, []) := by decide
theorem test_bits_rorAcc : decode [0b01101010#8] = .ok (.rorAcc, []) := by decide
theorem test_bits_bvs : decode [0b01110000#8, 0b11110000#8] = .ok (.bvs 0xF0#8, []) := by decide
theorem test_bits_jmpInd : decode [0b01101100#8, 0b11111111#8, 0b00000010#8] = .ok (.jmpInd 0x02FF#16, []) := by decide
theorem test_bits_rti : decode [0b01000000#8] = .ok (.rti, []) := by decide
theorem test_bits_illegalEB : decode [0b11101011#8] = .ok (.illegalEB, []) := by decide

/-! One CPU step from a vector's start state. -/

/-- The registers of a vector, in its order. -/
structure Regs where
  a : Byte
  x : Byte
  y : Byte
  p : Byte
  sp : Byte
  pc : Word
  cyc : Nat
  deriving DecidableEq, Repr

/-- The machine with these registers and these bytes of `MEM`, and everything else as at reset. -/
def machineWith (r : Regs) (cells : List (Nat × Byte)) : State :=
  { State.reset with
    cpu := { State.reset.cpu with a := r.a, x := r.x, y := r.y, p := r.p, sp := r.sp, pc := r.pc, cyc := r.cyc }
    mem := Memory.writeList [] cells }

/-- The registers after one CPU step, and the bytes of `MEM` at the given addresses. -/
def afterStep (s : State) (cells : List Nat) : Option (Regs × List Byte) :=
  match cpuStep s with
  | .next t =>
    some (⟨t.cpu.a, t.cpu.x, t.cpu.y, t.cpu.p, t.cpu.sp, t.cpu.pc, t.cpu.cyc⟩, cells.map t.mem.read)
  | _ => none

theorem test_ldaImm_V1_1 :
    afterStep (machineWith ⟨0x00#8, 0x00#8, 0x00#8, 0x25#8, 0xFD#8, 0x8000#16, 7⟩
      [(0x8000, 0xA9#8), (0x8001, 0x00#8)]) [] =
      some (⟨0x00#8, 0x00#8, 0x00#8, 0x27#8, 0xFD#8, 0x8002#16, 9⟩, []) := by decide

theorem test_ldaImm_V1_2 :
    afterStep (machineWith ⟨0x00#8, 0x00#8, 0x00#8, 0x24#8, 0xFD#8, 0x8000#16, 7⟩
      [(0x8000, 0xA9#8), (0x8001, 0x80#8)]) [] =
      some (⟨0x80#8, 0x00#8, 0x00#8, 0xA4#8, 0xFD#8, 0x8002#16, 9⟩, []) := by decide

theorem test_ldaAbx_V1_3 :
    afterStep (machineWith ⟨0x00#8, 0x01#8, 0x00#8, 0x24#8, 0xFD#8, 0x8000#16, 7⟩
      [(0x8000, 0xBD#8), (0x8001, 0xFF#8), (0x8002, 0x10#8), (0x1100, 0x55#8)]) [] =
      some (⟨0x55#8, 0x01#8, 0x00#8, 0x24#8, 0xFD#8, 0x8003#16, 12⟩, []) := by decide

theorem test_ldaAbx_V1_4 :
    afterStep (machineWith ⟨0x00#8, 0x01#8, 0x00#8, 0x24#8, 0xFD#8, 0x8000#16, 7⟩
      [(0x8000, 0xBD#8), (0x8001, 0x00#8), (0x8002, 0x10#8), (0x1001, 0x66#8)]) [] =
      some (⟨0x66#8, 0x01#8, 0x00#8, 0x24#8, 0xFD#8, 0x8003#16, 11⟩, []) := by decide

theorem test_ldaIzy_V1_5 :
    afterStep (machineWith ⟨0x00#8, 0x00#8, 0x01#8, 0x24#8, 0xFD#8, 0x8000#16, 7⟩
      [(0x8000, 0xB1#8), (0x8001, 0x20#8), (0x0020, 0xFF#8), (0x0021, 0x10#8), (0x1100, 0x77#8)]) [] =
      some (⟨0x77#8, 0x00#8, 0x01#8, 0x24#8, 0xFD#8, 0x8002#16, 13⟩, []) := by decide

theorem test_ldaIzy_V1_6 :
    afterStep (machineWith ⟨0x00#8, 0x00#8, 0x00#8, 0x24#8, 0xFD#8, 0x8000#16, 7⟩
      [(0x8000, 0xB1#8), (0x8001, 0xFF#8), (0x00FF, 0x00#8), (0x0000, 0x02#8), (0x0200, 0x99#8)]) [] =
      some (⟨0x99#8, 0x00#8, 0x00#8, 0xA4#8, 0xFD#8, 0x8002#16, 12⟩, []) := by decide

theorem test_ldaIzx_V1_7 :
    afterStep (machineWith ⟨0x00#8, 0x0F#8, 0x00#8, 0x24#8, 0xFD#8, 0x8000#16, 7⟩
      [(0x8000, 0xA1#8), (0x8001, 0xF0#8), (0x00FF, 0x34#8), (0x0000, 0x12#8), (0x1234, 0x5A#8)]) [] =
      some (⟨0x5A#8, 0x0F#8, 0x00#8, 0x24#8, 0xFD#8, 0x8002#16, 13⟩, []) := by decide

theorem test_ldxZpy_V1_8 :
    afterStep (machineWith ⟨0x00#8, 0x00#8, 0x01#8, 0x24#8, 0xFD#8, 0x8000#16, 7⟩
      [(0x8000, 0xB6#8), (0x8001, 0xFF#8), (0x0000, 0x7B#8), (0x0100, 0xEE#8)]) [] =
      some (⟨0x00#8, 0x7B#8, 0x01#8, 0x24#8, 0xFD#8, 0x8002#16, 11⟩, []) := by decide

theorem test_ldyAbx_V1_9 :
    afterStep (machineWith ⟨0x00#8, 0x02#8, 0x00#8, 0x24#8, 0xFD#8, 0x8000#16, 7⟩
      [(0x8000, 0xBC#8), (0x8001, 0xFF#8), (0x8002, 0xFF#8), (0x0001, 0x80#8)]) [] =
      some (⟨0x00#8, 0x02#8, 0x80#8, 0xA4#8, 0xFD#8, 0x8003#16, 12⟩, []) := by decide

theorem test_staAbx_V1_10 :
    afterStep (machineWith ⟨0x42#8, 0x01#8, 0x00#8, 0x24#8, 0xFD#8, 0x8000#16, 7⟩
      [(0x8000, 0x9D#8), (0x8001, 0xFF#8), (0x8002, 0x10#8)]) [0x1100] =
      some (⟨0x42#8, 0x01#8, 0x00#8, 0x24#8, 0xFD#8, 0x8003#16, 12⟩, [0x42#8]) := by decide

theorem test_staIzy_V1_11 :
    afterStep (machineWith ⟨0x42#8, 0x00#8, 0x01#8, 0x24#8, 0xFD#8, 0x8000#16, 7⟩
      [(0x8000, 0x91#8), (0x8001, 0x20#8), (0x0020, 0xFF#8), (0x0021, 0x10#8)]) [0x1100] =
      some (⟨0x42#8, 0x00#8, 0x01#8, 0x24#8, 0xFD#8, 0x8002#16, 13⟩, [0x42#8]) := by decide

theorem test_stxZpy_V1_12 :
    afterStep (machineWith ⟨0x00#8, 0x33#8, 0xF8#8, 0x24#8, 0xFD#8, 0x8000#16, 7⟩
      [(0x8000, 0x96#8), (0x8001, 0x10#8)]) [0x0008] =
      some (⟨0x00#8, 0x33#8, 0xF8#8, 0x24#8, 0xFD#8, 0x8002#16, 11⟩, [0x33#8]) := by decide

theorem test_txs_V1_13 :
    afterStep (machineWith ⟨0x00#8, 0x00#8, 0x00#8, 0x24#8, 0xFD#8, 0x8000#16, 7⟩
      [(0x8000, 0x9A#8)]) [] =
      some (⟨0x00#8, 0x00#8, 0x00#8, 0x24#8, 0x00#8, 0x8001#16, 9⟩, []) := by decide

theorem test_tsx_V1_14 :
    afterStep (machineWith ⟨0x00#8, 0x00#8, 0x00#8, 0x24#8, 0xFD#8, 0x8000#16, 7⟩
      [(0x8000, 0xBA#8)]) [] =
      some (⟨0x00#8, 0xFD#8, 0x00#8, 0xA4#8, 0xFD#8, 0x8001#16, 9⟩, []) := by decide

theorem test_tax_V1_15 :
    afterStep (machineWith ⟨0x00#8, 0x05#8, 0x00#8, 0x24#8, 0xFD#8, 0x8000#16, 7⟩
      [(0x8000, 0xAA#8)]) [] =
      some (⟨0x00#8, 0x00#8, 0x00#8, 0x26#8, 0xFD#8, 0x8001#16, 9⟩, []) := by decide

theorem test_tya_V1_16 :
    afterStep (machineWith ⟨0x00#8, 0x00#8, 0x80#8, 0x24#8, 0xFD#8, 0x8000#16, 7⟩
      [(0x8000, 0x98#8)]) [] =
      some (⟨0x80#8, 0x00#8, 0x80#8, 0xA4#8, 0xFD#8, 0x8001#16, 9⟩, []) := by decide

theorem test_staAbs_V1_17 :
    afterStep (machineWith ⟨0x80#8, 0x00#8, 0x00#8, 0x24#8, 0xFD#8, 0x8000#16, 7⟩
      [(0x8000, 0x8D#8), (0x8001, 0x00#8), (0x8002, 0x20#8)]) [0x2000] =
      some (⟨0x80#8, 0x00#8, 0x00#8, 0x24#8, 0xFD#8, 0x8003#16, 11⟩, [0x80#8]) := by decide

theorem test_adcImm_V2_1 :
    afterStep (machineWith ⟨0x7F#8, 0x00#8, 0x00#8, 0x24#8, 0xFD#8, 0x8000#16, 7⟩
      [(0x8000, 0x69#8), (0x8001, 0x01#8)]) [] =
      some (⟨0x80#8, 0x00#8, 0x00#8, 0xE4#8, 0xFD#8, 0x8002#16, 9⟩, []) := by decide

theorem test_adcImm_V2_2 :
    afterStep (machineWith ⟨0xFF#8, 0x00#8, 0x00#8, 0x25#8, 0xFD#8, 0x8000#16, 7⟩
      [(0x8000, 0x69#8), (0x8001, 0x00#8)]) [] =
      some (⟨0x00#8, 0x00#8, 0x00#8, 0x27#8, 0xFD#8, 0x8002#16, 9⟩, []) := by decide

theorem test_sbcImm_V2_6 :
    afterStep (machineWith ⟨0x80#8, 0x00#8, 0x00#8, 0x25#8, 0xFD#8, 0x8000#16, 7⟩
      [(0x8000, 0xE9#8), (0x8001, 0x01#8)]) [] =
      some (⟨0x7F#8, 0x00#8, 0x00#8, 0x65#8, 0xFD#8, 0x8002#16, 9⟩, []) := by decide

theorem test_sbcImm_V2_7 :
    afterStep (machineWith ⟨0x00#8, 0x00#8, 0x00#8, 0x25#8, 0xFD#8, 0x8000#16, 7⟩
      [(0x8000, 0xE9#8), (0x8001, 0x01#8)]) [] =
      some (⟨0xFF#8, 0x00#8, 0x00#8, 0xA4#8, 0xFD#8, 0x8002#16, 9⟩, []) := by decide

theorem test_andImm_V2_11 :
    afterStep (machineWith ⟨0xF0#8, 0x00#8, 0x00#8, 0x24#8, 0xFD#8, 0x8000#16, 7⟩
      [(0x8000, 0x29#8), (0x8001, 0x0F#8)]) [] =
      some (⟨0x00#8, 0x00#8, 0x00#8, 0x26#8, 0xFD#8, 0x8002#16, 9⟩, []) := by decide

theorem test_oraImm_V2_12 :
    afterStep (machineWith ⟨0x01#8, 0x00#8, 0x00#8, 0x24#8, 0xFD#8, 0x8000#16, 7⟩
      [(0x8000, 0x09#8), (0x8001, 0x80#8)]) [] =
      some (⟨0x81#8, 0x00#8, 0x00#8, 0xA4#8, 0xFD#8, 0x8002#16, 9⟩, []) := by decide

theorem test_eorImm_V2_13 :
    afterStep (machineWith ⟨0xFF#8, 0x00#8, 0x00#8, 0x24#8, 0xFD#8, 0x8000#16, 7⟩
      [(0x8000, 0x49#8), (0x8001, 0xFF#8)]) [] =
      some (⟨0x00#8, 0x00#8, 0x00#8, 0x26#8, 0xFD#8, 0x8002#16, 9⟩, []) := by decide

theorem test_cmpImm_V2_14 :
    afterStep (machineWith ⟨0x40#8, 0x00#8, 0x00#8, 0x24#8, 0xFD#8, 0x8000#16, 7⟩
      [(0x8000, 0xC9#8), (0x8001, 0x40#8)]) [] =
      some (⟨0x40#8, 0x00#8, 0x00#8, 0x27#8, 0xFD#8, 0x8002#16, 9⟩, []) := by decide

theorem test_cmpImm_V2_15 :
    afterStep (machineWith ⟨0x40#8, 0x00#8, 0x00#8, 0x24#8, 0xFD#8, 0x8000#16, 7⟩
      [(0x8000, 0xC9#8), (0x8001, 0x41#8)]) [] =
      some (⟨0x40#8, 0x00#8, 0x00#8, 0xA4#8, 0xFD#8, 0x8002#16, 9⟩, []) := by decide

theorem test_cpxImm_V2_17 :
    afterStep (machineWith ⟨0x00#8, 0x20#8, 0x00#8, 0x24#8, 0xFD#8, 0x8000#16, 7⟩
      [(0x8000, 0xE0#8), (0x8001, 0x10#8)]) [] =
      some (⟨0x00#8, 0x20#8, 0x00#8, 0x25#8, 0xFD#8, 0x8002#16, 9⟩, []) := by decide

theorem test_cpyImm_V2_18 :
    afterStep (machineWith ⟨0x00#8, 0x00#8, 0x7F#8, 0x24#8, 0xFD#8, 0x8000#16, 7⟩
      [(0x8000, 0xC0#8), (0x8001, 0x80#8)]) [] =
      some (⟨0x00#8, 0x00#8, 0x7F#8, 0xA4#8, 0xFD#8, 0x8002#16, 9⟩, []) := by decide

theorem test_bitZp_V2_19 :
    afterStep (machineWith ⟨0x01#8, 0x00#8, 0x00#8, 0x24#8, 0xFD#8, 0x8000#16, 7⟩
      [(0x8000, 0x24#8), (0x8001, 0x10#8), (0x0010, 0xC0#8)]) [] =
      some (⟨0x01#8, 0x00#8, 0x00#8, 0xE6#8, 0xFD#8, 0x8002#16, 10⟩, []) := by decide

theorem test_bitZp_V2_20 :
    afterStep (machineWith ⟨0xFF#8, 0x00#8, 0x00#8, 0xE4#8, 0xFD#8, 0x8000#16, 7⟩
      [(0x8000, 0x24#8), (0x8001, 0x10#8), (0x0010, 0x3F#8)]) [] =
      some (⟨0xFF#8, 0x00#8, 0x00#8, 0x24#8, 0xFD#8, 0x8002#16, 10⟩, []) := by decide

theorem test_incZp_V2_21 :
    afterStep (machineWith ⟨0x00#8, 0x00#8, 0x00#8, 0x24#8, 0xFD#8, 0x8000#16, 7⟩
      [(0x8000, 0xE6#8), (0x8001, 0x10#8), (0x0010, 0xFF#8)]) [0x0010] =
      some (⟨0x00#8, 0x00#8, 0x00#8, 0x26#8, 0xFD#8, 0x8002#16, 12⟩, [0x00#8]) := by decide

theorem test_decZp_V2_22 :
    afterStep (machineWith ⟨0x00#8, 0x00#8, 0x00#8, 0x24#8, 0xFD#8, 0x8000#16, 7⟩
      [(0x8000, 0xC6#8), (0x8001, 0x10#8), (0x0010, 0x00#8)]) [0x0010] =
      some (⟨0x00#8, 0x00#8, 0x00#8, 0xA4#8, 0xFD#8, 0x8002#16, 12⟩, [0xFF#8]) := by decide

theorem test_incAbx_V2_23 :
    afterStep (machineWith ⟨0x00#8, 0x01#8, 0x00#8, 0x24#8, 0xFD#8, 0x8000#16, 7⟩
      [(0x8000, 0xFE#8), (0x8001, 0xFF#8), (0x8002, 0x10#8), (0x1100, 0x7F#8)]) [0x1100] =
      some (⟨0x00#8, 0x01#8, 0x00#8, 0xA4#8, 0xFD#8, 0x8003#16, 14⟩, [0x80#8]) := by decide

theorem test_inx_V2_24 :
    afterStep (machineWith ⟨0x00#8, 0xFF#8, 0x00#8, 0x24#8, 0xFD#8, 0x8000#16, 7⟩
      [(0x8000, 0xE8#8)]) [] =
      some (⟨0x00#8, 0x00#8, 0x00#8, 0x26#8, 0xFD#8, 0x8001#16, 9⟩, []) := by decide

theorem test_dey_V2_25 :
    afterStep (machineWith ⟨0x00#8, 0x00#8, 0x00#8, 0x24#8, 0xFD#8, 0x8000#16, 7⟩
      [(0x8000, 0x88#8)]) [] =
      some (⟨0x00#8, 0x00#8, 0xFF#8, 0xA4#8, 0xFD#8, 0x8001#16, 9⟩, []) := by decide

theorem test_dex_V2_26 :
    afterStep (machineWith ⟨0x00#8, 0x01#8, 0x00#8, 0x24#8, 0xFD#8, 0x8000#16, 7⟩
      [(0x8000, 0xCA#8)]) [] =
      some (⟨0x00#8, 0x00#8, 0x00#8, 0x26#8, 0xFD#8, 0x8001#16, 9⟩, []) := by decide

theorem test_iny_V2_27 :
    afterStep (machineWith ⟨0x00#8, 0x00#8, 0x7F#8, 0x24#8, 0xFD#8, 0x8000#16, 7⟩
      [(0x8000, 0xC8#8)]) [] =
      some (⟨0x00#8, 0x00#8, 0x80#8, 0xA4#8, 0xFD#8, 0x8001#16, 9⟩, []) := by decide

theorem test_aslAcc_V3_1 :
    afterStep (machineWith ⟨0x80#8, 0x00#8, 0x00#8, 0x24#8, 0xFD#8, 0x8000#16, 7⟩
      [(0x8000, 0x0A#8)]) [] =
      some (⟨0x00#8, 0x00#8, 0x00#8, 0x27#8, 0xFD#8, 0x8001#16, 9⟩, []) := by decide

theorem test_aslAcc_V3_2 :
    afterStep (machineWith ⟨0x41#8, 0x00#8, 0x00#8, 0x25#8, 0xFD#8, 0x8000#16, 7⟩
      [(0x8000, 0x0A#8)]) [] =
      some (⟨0x82#8, 0x00#8, 0x00#8, 0xA4#8, 0xFD#8, 0x8001#16, 9⟩, []) := by decide

theorem test_lsrZp_V3_3 :
    afterStep (machineWith ⟨0x00#8, 0x00#8, 0x00#8, 0x24#8, 0xFD#8, 0x8000#16, 7⟩
      [(0x8000, 0x46#8), (0x8001, 0x10#8), (0x0010, 0x01#8)]) [0x0010] =
      some (⟨0x00#8, 0x00#8, 0x00#8, 0x27#8, 0xFD#8, 0x8002#16, 12⟩, [0x00#8]) := by decide

theorem test_lsrAcc_V3_4 :
    afterStep (machineWith ⟨0xFF#8, 0x00#8, 0x00#8, 0x24#8, 0xFD#8, 0x8000#16, 7⟩
      [(0x8000, 0x4A#8)]) [] =
      some (⟨0x7F#8, 0x00#8, 0x00#8, 0x25#8, 0xFD#8, 0x8001#16, 9⟩, []) := by decide

theorem test_rolAcc_V3_5 :
    afterStep (machineWith ⟨0x80#8, 0x00#8, 0x00#8, 0x25#8, 0xFD#8, 0x8000#16, 7⟩
      [(0x8000, 0x2A#8)]) [] =
      some (⟨0x01#8, 0x00#8, 0x00#8, 0x25#8, 0xFD#8, 0x8001#16, 9⟩, []) := by decide

theorem test_rolZp_V3_6 :
    afterStep (machineWith ⟨0x00#8, 0x00#8, 0x00#8, 0x25#8, 0xFD#8, 0x8000#16, 7⟩
      [(0x8000, 0x26#8), (0x8001, 0x10#8), (0x0010, 0x40#8)]) [0x0010] =
      some (⟨0x00#8, 0x00#8, 0x00#8, 0xA4#8, 0xFD#8, 0x8002#16, 12⟩, [0x81#8]) := by decide

theorem test_rorAcc_V3_7 :
    afterStep (machineWith ⟨0x01#8, 0x00#8, 0x00#8, 0x24#8, 0xFD#8, 0x8000#16, 7⟩
      [(0x8000, 0x6A#8)]) [] =
      some (⟨0x00#8, 0x00#8, 0x00#8, 0x27#8, 0xFD#8, 0x8001#16, 9⟩, []) := by decide

theorem test_rorZpx_V3_8 :
    afterStep (machineWith ⟨0x00#8, 0x01#8, 0x00#8, 0x25#8, 0xFD#8, 0x8000#16, 7⟩
      [(0x8000, 0x76#8), (0x8001, 0x10#8), (0x0011, 0x02#8)]) [0x0011] =
      some (⟨0x00#8, 0x01#8, 0x00#8, 0xA4#8, 0xFD#8, 0x8002#16, 13⟩, [0x81#8]) := by decide

theorem test_aslAbx_V3_9 :
    afterStep (machineWith ⟨0x00#8, 0x01#8, 0x00#8, 0x24#8, 0xFD#8, 0x8000#16, 7⟩
      [(0x8000, 0x1E#8), (0x8001, 0xFF#8), (0x8002, 0x10#8), (0x1100, 0xC0#8)]) [0x1100] =
      some (⟨0x00#8, 0x01#8, 0x00#8, 0xA5#8, 0xFD#8, 0x8003#16, 14⟩, [0x80#8]) := by decide

theorem test_bne_V4_1 :
    afterStep (machineWith ⟨0x00#8, 0x00#8, 0x00#8, 0x24#8, 0xFD#8, 0x8000#16, 7⟩
      [(0x8000, 0xD0#8), (0x8001, 0x05#8)]) [] =
      some (⟨0x00#8, 0x00#8, 0x00#8, 0x24#8, 0xFD#8, 0x8007#16, 10⟩, []) := by decide

theorem test_bne_V4_2 :
    afterStep (machineWith ⟨0x00#8, 0x00#8, 0x00#8, 0x26#8, 0xFD#8, 0x8000#16, 7⟩
      [(0x8000, 0xD0#8), (0x8001, 0x05#8)]) [] =
      some (⟨0x00#8, 0x00#8, 0x00#8, 0x26#8, 0xFD#8, 0x8002#16, 9⟩, []) := by decide

theorem test_beq_V4_5 :
    afterStep (machineWith ⟨0x00#8, 0x00#8, 0x00#8, 0x26#8, 0xFD#8, 0x80FD#16, 7⟩
      [(0x80FD, 0xF0#8), (0x80FE, 0x00#8)]) [] =
      some (⟨0x00#8, 0x00#8, 0x00#8, 0x26#8, 0xFD#8, 0x80FF#16, 10⟩, []) := by decide

theorem test_beq_V4_6 :
    afterStep (machineWith ⟨0x00#8, 0x00#8, 0x00#8, 0x26#8, 0xFD#8, 0x80FD#16, 7⟩
      [(0x80FD, 0xF0#8), (0x80FE, 0x01#8)]) [] =
      some (⟨0x00#8, 0x00#8, 0x00#8, 0x26#8, 0xFD#8, 0x8100#16, 11⟩, []) := by decide

theorem test_bvs_V4_7 :
    afterStep (machineWith ⟨0x00#8, 0x00#8, 0x00#8, 0x64#8, 0xFD#8, 0xFFFD#16, 7⟩
      [(0xFFFD, 0x70#8), (0xFFFE, 0x05#8)]) [] =
      some (⟨0x00#8, 0x00#8, 0x00#8, 0x64#8, 0xFD#8, 0x0004#16, 11⟩, []) := by decide

theorem test_bcs_V4_8 :
    afterStep (machineWith ⟨0x00#8, 0x00#8, 0x00#8, 0x25#8, 0xFD#8, 0x8000#16, 7⟩
      [(0x8000, 0xB0#8), (0x8001, 0xFE#8)]) [] =
      some (⟨0x00#8, 0x00#8, 0x00#8, 0x25#8, 0xFD#8, 0x8000#16, 10⟩, []) := by decide

theorem test_bpl_V4_9 :
    afterStep (machineWith ⟨0x00#8, 0x00#8, 0x00#8, 0x24#8, 0xFD#8, 0x8000#16, 7⟩
      [(0x8000, 0x10#8), (0x8001, 0x80#8)]) [] =
      some (⟨0x00#8, 0x00#8, 0x00#8, 0x24#8, 0xFD#8, 0x7F82#16, 11⟩, []) := by decide

theorem test_bmi_V4_10 :
    afterStep (machineWith ⟨0x00#8, 0x00#8, 0x00#8, 0xA4#8, 0xFD#8, 0x8000#16, 7⟩
      [(0x8000, 0x30#8), (0x8001, 0x7F#8)]) [] =
      some (⟨0x00#8, 0x00#8, 0x00#8, 0xA4#8, 0xFD#8, 0x8081#16, 10⟩, []) := by decide

theorem test_jmpAbs_V4_11 :
    afterStep (machineWith ⟨0x00#8, 0x00#8, 0x00#8, 0x24#8, 0xFD#8, 0x8000#16, 7⟩
      [(0x8000, 0x4C#8), (0x8001, 0x34#8), (0x8002, 0x12#8)]) [] =
      some (⟨0x00#8, 0x00#8, 0x00#8, 0x24#8, 0xFD#8, 0x1234#16, 10⟩, []) := by decide

theorem test_jmpInd_V4_12 :
    afterStep (machineWith ⟨0x00#8, 0x00#8, 0x00#8, 0x24#8, 0xFD#8, 0x8000#16, 7⟩
      [(0x8000, 0x6C#8), (0x8001, 0xFF#8), (0x8002, 0x02#8), (0x02FF, 0x34#8), (0x0200, 0x12#8), (0x0300, 0x56#8)]) [] =
      some (⟨0x00#8, 0x00#8, 0x00#8, 0x24#8, 0xFD#8, 0x1234#16, 12⟩, []) := by decide

theorem test_jmpInd_V4_13 :
    afterStep (machineWith ⟨0x00#8, 0x00#8, 0x00#8, 0x24#8, 0xFD#8, 0x8000#16, 7⟩
      [(0x8000, 0x6C#8), (0x8001, 0x80#8), (0x8002, 0x02#8), (0x0280, 0x78#8), (0x0281, 0x56#8)]) [] =
      some (⟨0x00#8, 0x00#8, 0x00#8, 0x24#8, 0xFD#8, 0x5678#16, 12⟩, []) := by decide

theorem test_jsrAbs_V4_14 :
    afterStep (machineWith ⟨0x00#8, 0x00#8, 0x00#8, 0x24#8, 0xFD#8, 0x8000#16, 7⟩
      [(0x8000, 0x20#8), (0x8001, 0x10#8), (0x8002, 0x80#8)]) [0x01FD, 0x01FC] =
      some (⟨0x00#8, 0x00#8, 0x00#8, 0x24#8, 0xFB#8, 0x8010#16, 13⟩, [0x80#8, 0x02#8]) := by decide

theorem test_jsrAbs_V4_15 :
    afterStep (machineWith ⟨0x00#8, 0x00#8, 0x00#8, 0x24#8, 0x00#8, 0x8000#16, 7⟩
      [(0x8000, 0x20#8), (0x8001, 0x00#8), (0x8002, 0x90#8)]) [0x0100, 0x01FF] =
      some (⟨0x00#8, 0x00#8, 0x00#8, 0x24#8, 0xFE#8, 0x9000#16, 13⟩, [0x80#8, 0x02#8]) := by decide

theorem test_rts_V4_16 :
    afterStep (machineWith ⟨0x00#8, 0x00#8, 0x00#8, 0x24#8, 0xFB#8, 0x8010#16, 7⟩
      [(0x8010, 0x60#8), (0x01FC, 0x02#8), (0x01FD, 0x80#8)]) [] =
      some (⟨0x00#8, 0x00#8, 0x00#8, 0x24#8, 0xFD#8, 0x8003#16, 13⟩, []) := by decide

theorem test_rts_V4_17 :
    afterStep (machineWith ⟨0x00#8, 0x00#8, 0x00#8, 0x24#8, 0xFB#8, 0x8000#16, 7⟩
      [(0x8000, 0x60#8), (0x01FC, 0xFF#8), (0x01FD, 0xFF#8)]) [] =
      some (⟨0x00#8, 0x00#8, 0x00#8, 0x24#8, 0xFD#8, 0x0000#16, 13⟩, []) := by decide

theorem test_pha_V5_1 :
    afterStep (machineWith ⟨0x42#8, 0x00#8, 0x00#8, 0x24#8, 0xFD#8, 0x8000#16, 7⟩
      [(0x8000, 0x48#8)]) [0x01FD] =
      some (⟨0x42#8, 0x00#8, 0x00#8, 0x24#8, 0xFC#8, 0x8001#16, 10⟩, [0x42#8]) := by decide

theorem test_pha_V5_2 :
    afterStep (machineWith ⟨0x42#8, 0x00#8, 0x00#8, 0x24#8, 0x00#8, 0x8000#16, 7⟩
      [(0x8000, 0x48#8)]) [0x0100] =
      some (⟨0x42#8, 0x00#8, 0x00#8, 0x24#8, 0xFF#8, 0x8001#16, 10⟩, [0x42#8]) := by decide

theorem test_pla_V5_3 :
    afterStep (machineWith ⟨0x00#8, 0x00#8, 0x00#8, 0x24#8, 0xFF#8, 0x8000#16, 7⟩
      [(0x8000, 0x68#8), (0x0100, 0x80#8)]) [] =
      some (⟨0x80#8, 0x00#8, 0x00#8, 0xA4#8, 0x00#8, 0x8001#16, 11⟩, []) := by decide

theorem test_pla_V5_4 :
    afterStep (machineWith ⟨0x05#8, 0x00#8, 0x00#8, 0x24#8, 0xFC#8, 0x8000#16, 7⟩
      [(0x8000, 0x68#8), (0x01FD, 0x00#8)]) [] =
      some (⟨0x00#8, 0x00#8, 0x00#8, 0x26#8, 0xFD#8, 0x8001#16, 11⟩, []) := by decide

theorem test_php_V5_5 :
    afterStep (machineWith ⟨0x00#8, 0x00#8, 0x00#8, 0x24#8, 0xFD#8, 0x8000#16, 7⟩
      [(0x8000, 0x08#8)]) [0x01FD] =
      some (⟨0x00#8, 0x00#8, 0x00#8, 0x24#8, 0xFC#8, 0x8001#16, 10⟩, [0x34#8]) := by decide

theorem test_php_V5_6 :
    afterStep (machineWith ⟨0x00#8, 0x00#8, 0x00#8, 0xE5#8, 0xFD#8, 0x8000#16, 7⟩
      [(0x8000, 0x08#8)]) [0x01FD] =
      some (⟨0x00#8, 0x00#8, 0x00#8, 0xE5#8, 0xFC#8, 0x8001#16, 10⟩, [0xF5#8]) := by decide

theorem test_plp_V5_7 :
    afterStep (machineWith ⟨0x00#8, 0x00#8, 0x00#8, 0x24#8, 0xFC#8, 0x8000#16, 7⟩
      [(0x8000, 0x28#8), (0x01FD, 0xFF#8)]) [] =
      some (⟨0x00#8, 0x00#8, 0x00#8, 0xEF#8, 0xFD#8, 0x8001#16, 11⟩, []) := by decide

theorem test_plp_V5_8 :
    afterStep (machineWith ⟨0x00#8, 0x00#8, 0x00#8, 0x24#8, 0xFC#8, 0x8000#16, 7⟩
      [(0x8000, 0x28#8), (0x01FD, 0x00#8)]) [] =
      some (⟨0x00#8, 0x00#8, 0x00#8, 0x20#8, 0xFD#8, 0x8001#16, 11⟩, []) := by decide

theorem test_clc_V5_10 :
    afterStep (machineWith ⟨0x00#8, 0x00#8, 0x00#8, 0x25#8, 0xFD#8, 0x8000#16, 7⟩
      [(0x8000, 0x18#8)]) [] =
      some (⟨0x00#8, 0x00#8, 0x00#8, 0x24#8, 0xFD#8, 0x8001#16, 9⟩, []) := by decide

theorem test_sec_V5_11 :
    afterStep (machineWith ⟨0x00#8, 0x00#8, 0x00#8, 0x24#8, 0xFD#8, 0x8000#16, 7⟩
      [(0x8000, 0x38#8)]) [] =
      some (⟨0x00#8, 0x00#8, 0x00#8, 0x25#8, 0xFD#8, 0x8001#16, 9⟩, []) := by decide

theorem test_cli_V5_12 :
    afterStep (machineWith ⟨0x00#8, 0x00#8, 0x00#8, 0x24#8, 0xFD#8, 0x8000#16, 7⟩
      [(0x8000, 0x58#8)]) [] =
      some (⟨0x00#8, 0x00#8, 0x00#8, 0x20#8, 0xFD#8, 0x8001#16, 9⟩, []) := by decide

theorem test_sei_V5_13 :
    afterStep (machineWith ⟨0x00#8, 0x00#8, 0x00#8, 0x20#8, 0xFD#8, 0x8000#16, 7⟩
      [(0x8000, 0x78#8)]) [] =
      some (⟨0x00#8, 0x00#8, 0x00#8, 0x24#8, 0xFD#8, 0x8001#16, 9⟩, []) := by decide

theorem test_cld_V5_14 :
    afterStep (machineWith ⟨0x00#8, 0x00#8, 0x00#8, 0x2C#8, 0xFD#8, 0x8000#16, 7⟩
      [(0x8000, 0xD8#8)]) [] =
      some (⟨0x00#8, 0x00#8, 0x00#8, 0x24#8, 0xFD#8, 0x8001#16, 9⟩, []) := by decide

theorem test_sed_V5_15 :
    afterStep (machineWith ⟨0x00#8, 0x00#8, 0x00#8, 0x24#8, 0xFD#8, 0x8000#16, 7⟩
      [(0x8000, 0xF8#8)]) [] =
      some (⟨0x00#8, 0x00#8, 0x00#8, 0x2C#8, 0xFD#8, 0x8001#16, 9⟩, []) := by decide

theorem test_clv_V5_16 :
    afterStep (machineWith ⟨0x00#8, 0x00#8, 0x00#8, 0x64#8, 0xFD#8, 0x8000#16, 7⟩
      [(0x8000, 0xB8#8)]) [] =
      some (⟨0x00#8, 0x00#8, 0x00#8, 0x24#8, 0xFD#8, 0x8001#16, 9⟩, []) := by decide

theorem test_nop_V5_17 :
    afterStep (machineWith ⟨0x00#8, 0x00#8, 0x00#8, 0xE5#8, 0xFD#8, 0x8000#16, 7⟩
      [(0x8000, 0xEA#8)]) [] =
      some (⟨0x00#8, 0x00#8, 0x00#8, 0xE5#8, 0xFD#8, 0x8001#16, 9⟩, []) := by decide

theorem test_brk_V5_18 :
    afterStep (machineWith ⟨0x00#8, 0x00#8, 0x00#8, 0x24#8, 0xFD#8, 0x8000#16, 7⟩
      [(0x8000, 0x00#8), (0xFFFE, 0x00#8), (0xFFFF, 0x90#8)]) [0x01FD, 0x01FC, 0x01FB] =
      some (⟨0x00#8, 0x00#8, 0x00#8, 0x24#8, 0xFA#8, 0x9000#16, 14⟩, [0x80#8, 0x02#8, 0x34#8]) := by decide

theorem test_brk_V5_19 :
    afterStep (machineWith ⟨0x00#8, 0x00#8, 0x00#8, 0x28#8, 0xFD#8, 0x8000#16, 7⟩
      [(0x8000, 0x00#8), (0xFFFE, 0x00#8), (0xFFFF, 0x90#8)]) [0x01FB] =
      some (⟨0x00#8, 0x00#8, 0x00#8, 0x2C#8, 0xFA#8, 0x9000#16, 14⟩, [0x38#8]) := by decide

theorem test_rti_V5_20 :
    afterStep (machineWith ⟨0x00#8, 0x00#8, 0x00#8, 0x24#8, 0xFA#8, 0x9000#16, 7⟩
      [(0x9000, 0x40#8), (0x01FB, 0x34#8), (0x01FC, 0x02#8), (0x01FD, 0x80#8)]) [] =
      some (⟨0x00#8, 0x00#8, 0x00#8, 0x24#8, 0xFD#8, 0x8002#16, 13⟩, []) := by decide

theorem test_rti_V5_21 :
    afterStep (machineWith ⟨0x00#8, 0x00#8, 0x00#8, 0x24#8, 0xFA#8, 0x9000#16, 7⟩
      [(0x9000, 0x40#8), (0x01FB, 0xC3#8), (0x01FC, 0x34#8), (0x01FD, 0x12#8)]) [] =
      some (⟨0x00#8, 0x00#8, 0x00#8, 0xE3#8, 0xFD#8, 0x1234#16, 13⟩, []) := by decide

/-! The mnemonics the vectors leave to their neighbours, by hand from R240, R246, R187 and R188. -/

theorem test_bcc_taken :
    afterStep (machineWith ⟨0x00#8, 0x00#8, 0x00#8, 0x24#8, 0xFD#8, 0x8000#16, 7⟩ [(0x8000, 0x90#8), (0x8001, 0x05#8)]) [] =
      some (⟨0x00#8, 0x00#8, 0x00#8, 0x24#8, 0xFD#8, 0x8007#16, 10⟩, []) := by decide

theorem test_bvc_not_taken :
    afterStep (machineWith ⟨0x00#8, 0x00#8, 0x00#8, 0x64#8, 0xFD#8, 0x8000#16, 7⟩ [(0x8000, 0x50#8), (0x8001, 0x05#8)]) [] =
      some (⟨0x00#8, 0x00#8, 0x00#8, 0x64#8, 0xFD#8, 0x8002#16, 9⟩, []) := by decide

theorem test_tay_negative :
    afterStep (machineWith ⟨0x80#8, 0x01#8, 0x02#8, 0x26#8, 0xFD#8, 0x8000#16, 7⟩ [(0x8000, 0xA8#8)]) [] =
      some (⟨0x80#8, 0x01#8, 0x80#8, 0xA4#8, 0xFD#8, 0x8001#16, 9⟩, []) := by decide

theorem test_txa_zero :
    afterStep (machineWith ⟨0x80#8, 0x00#8, 0x02#8, 0xA4#8, 0xFD#8, 0x8000#16, 7⟩ [(0x8000, 0x8A#8)]) [] =
      some (⟨0x00#8, 0x00#8, 0x02#8, 0x26#8, 0xFD#8, 0x8001#16, 9⟩, []) := by decide

/-! The fatal stop, interrupts and the devices. -/

/-- The start state of a vector with nothing said: `PC` 0x8000. -/
def atCode (cells : List (Nat × Byte)) : State :=
  machineWith ⟨0x00#8, 0x00#8, 0x00#8, 0x24#8, 0xFD#8, 0x8000#16, 7⟩ cells

theorem test_gap_V5_22 :
    (match systemStep (atCode [(0x8000, 0x02#8)]) with
      | .next t => decide (t.cpu.halt = true ∧ t.cpu.haltOpcode = 0x02#8 ∧ t.cpu.haltCyc = 7 ∧ t.cpu.pc = 0x8000#16 ∧
          t.cpu.cyc = 7 ∧ t.ppu.dot = 0)
      | _ => false) = true := by decide

/-- The state of V8.1 with the given queue. -/
def pending (iq : List IntKind) : State :=
  (machineWith ⟨0x00#8, 0x00#8, 0x00#8, 0x21#8, 0xFD#8, 0x8123#16, 7⟩
    [(0x8123, 0x02#8), (0xFFFA, 0x40#8), (0xFFFB, 0x80#8), (0xFFFE, 0x00#8), (0xFFFF, 0x90#8)]).mapCpu
    fun c => { c with iq := iq }

theorem test_nmi_service_V8_1 :
    afterStep (pending [.nmi]) [0x01FD, 0x01FC, 0x01FB] =
      some (⟨0x00#8, 0x00#8, 0x00#8, 0x25#8, 0xFA#8, 0x8040#16, 14⟩, [0x81#8, 0x23#8, 0x31#8]) := by decide

theorem test_irq_service_V8_2 :
    (match cpuStep (pending [.irq, .nmi]) with
      | .next t => decide (t.cpu.pc = 0x9000#16 ∧ t.cpu.iq = [])
      | _ => false) = true := by decide

/-- A PPU at one coordinate, with `NMIOUT` as given and everything else as at reset. -/
def ppuAt (sl dot : Nat) (out : Bool) : Ppu := { State.reset.ppu with sl := sl, dot := dot, nmiOut := out }

theorem test_vblank_raises_V6_3 :
    (let r := (ppuAt 241 1 true).tick
     (r.1.status, r.1.nmiOcc, r.1.nmiOut, r.2, r.1.dot)) = (0x80#8, true, false, true, 2) := by decide

theorem test_vblank_clears_V6_1 :
    (let r := ({ ppuAt 261 1 false with status := 0x80#8, nmiOcc := true } : Ppu).tick
     (r.1.status, r.1.nmiOcc, r.2, r.1.sl, r.1.dot)) = (0x00#8, false, false, 261, 2) := by decide

theorem test_frame_wraps_V6_1 :
    (let r := (ppuAt 261 340 false).tick
     (r.1.sl, r.1.dot, r.1.framesRaised)) = (0, 0, 0) := by decide

theorem test_address_V6_6 :
    (let p := (ppuAt 0 0 false).onWrite2006 0x21#8
     let q := p.onWrite2006 0x08#8
     (p.t, p.v, p.w, q.t, q.v, q.w)) = (0x2100#15, 0x0000#15, true, 0x2108#15, 0x2108#15, false) := by decide

theorem test_data_read_V6_7 :
    (let p0 := ({ ppuAt 0 0 false with v := 0x2108#15, vram := [(0x2108, 0xAB#8), (0x2109, 0xCD#8)] } : Ppu)
     let p1 := p0.onRead2007
     let p2 := p1.2.onRead2007
     let p3 := p2.2.onRead2007
     (p1.1, p2.1, p3.1, p3.2.v, p3.2.rdbuf)) = (0x00#8, 0xAB#8, 0xCD#8, 0x210B#15, 0x00#8) := by decide

theorem test_data_write_V6_9 :
    (let p := ({ ppuAt 0 0 false with v := 0x7FF0#15, ctrl := 0x04#8 } : Ppu).onWrite2007 0x22#8
     (p.v, p.vram)) = (0x0010#15, [(0x3FF0, 0x22#8)]) := by decide

theorem test_status_read_V6_11 :
    (let r := ({ ppuAt 0 0 false with status := 0x80#8, nmiOcc := true, w := true } : Ppu).onRead2002
     (r.1, r.2.onRead2002.1, r.2.nmiOcc, r.2.w)) = (0x80#8, 0x00#8, false, false) := by decide

theorem test_buttons_V7_1 :
    (let q0 := (⟨0x09#8, 0x00#8, false⟩ : Pad).onWrite4016 0x01#8
     let q1 := q0.onRead4016
     let q2 := q1.2.onRead4016
     (q0.sr, q1.1, q1.2.sr, q2.1, q2.2.sr)) = (0x09#8, 0x01#8, 0x84#8, 0x00#8, 0xC2#8) := by decide

theorem test_keydown_reseeds_V7_3 :
    (let q := (⟨0x09#8, 0xE1#8, true⟩ : Pad).keydown 1
     (q.btn, q.sr)) = (0x0B#8, 0x0B#8) := by decide

theorem test_irq_masked_V8_3 : (irqRequest (atCode [])).cpu.iq = [] := by decide

/-- The state of V9.1 one dot later in the frame, so that no frame is rendered. -/
def afterFirstDot : State := (atCode [(0x8000, 0xA2#8), (0x8001, 0x0A#8)]).mapPpu fun p => { p with dot := 1 }

theorem test_six_dots_V9_1 :
    (match step afterFirstDot with
      | .next t => decide (t.cpu.x = 0x0A#8 ∧ t.cpu.cyc = 9 ∧ t.ppu.sl = 0 ∧ t.ppu.dot = 7)
      | _ => false) = true := by decide

/-- The first instruction after reset is the one that `withFetchWord` places (assumption log 13). -/
theorem test_fetch_word_runs :
    (match step (State.reset.withFetchWord 16 0x5AA9) with
      | .next t => decide (t.cpu.a = 0x5A#8 ∧ t.cpu.pc = 0x0002#16 ∧ t.ppu.dot = 6 ∧ t.ppu.framesRaised = 1)
      | _ => false) = true := by decide

theorem test_trace_reads_no_hook :
    (let l := traceLine (atCode [(0x8000, 0xAD#8), (0x8001, 0x02#8), (0x8002, 0x20#8)])
     (l.pc, l.bytes, l.p, l.sp, l.cyc)) = (0x8000#16, [0xAD#8, 0x02#8, 0x20#8], 0x24#8, 0xFD#8, 7) := by decide

/-! The hypotheses of the statements can be met. -/

/-- Every mnemonic has an instruction: the statements about a mnemonic's instructions speak of some. -/
theorem test_meets_mnemonics : ∀ m : Mnemonic, ∃ i : Instr, i.mnemonic = some m
  | .lda => ⟨.ldaImm 0x00#8, rfl⟩ | .ldx => ⟨.ldxImm 0x00#8, rfl⟩ | .ldy => ⟨.ldyImm 0x00#8, rfl⟩
  | .sta => ⟨.staZp 0x00#8, rfl⟩ | .stx => ⟨.stxZp 0x00#8, rfl⟩ | .sty => ⟨.styZp 0x00#8, rfl⟩
  | .tax => ⟨.tax, rfl⟩ | .tay => ⟨.tay, rfl⟩ | .txa => ⟨.txa, rfl⟩ | .tya => ⟨.tya, rfl⟩
  | .tsx => ⟨.tsx, rfl⟩ | .txs => ⟨.txs, rfl⟩ | .adc => ⟨.adcImm 0x00#8, rfl⟩ | .sbc => ⟨.sbcImm 0x00#8, rfl⟩
  | .and => ⟨.andImm 0x00#8, rfl⟩ | .ora => ⟨.oraImm 0x00#8, rfl⟩ | .eor => ⟨.eorImm 0x00#8, rfl⟩
  | .cmp => ⟨.cmpImm 0x00#8, rfl⟩ | .cpx => ⟨.cpxImm 0x00#8, rfl⟩ | .cpy => ⟨.cpyImm 0x00#8, rfl⟩
  | .bit => ⟨.bitZp 0x00#8, rfl⟩ | .inc => ⟨.incZp 0x00#8, rfl⟩ | .dec => ⟨.decZp 0x00#8, rfl⟩
  | .inx => ⟨.inx, rfl⟩ | .iny => ⟨.iny, rfl⟩ | .dex => ⟨.dex, rfl⟩ | .dey => ⟨.dey, rfl⟩
  | .asl => ⟨.aslAcc, rfl⟩ | .lsr => ⟨.lsrAcc, rfl⟩ | .rol => ⟨.rolAcc, rfl⟩ | .ror => ⟨.rorAcc, rfl⟩
  | .bcc => ⟨.bcc 0x80#8, rfl⟩ | .bcs => ⟨.bcs 0x80#8, rfl⟩ | .beq => ⟨.beq 0x80#8, rfl⟩ | .bne => ⟨.bne 0x80#8, rfl⟩
  | .bmi => ⟨.bmi 0x80#8, rfl⟩ | .bpl => ⟨.bpl 0x80#8, rfl⟩ | .bvc => ⟨.bvc 0x80#8, rfl⟩ | .bvs => ⟨.bvs 0x80#8, rfl⟩
  | .jmp => ⟨.jmpAbs 0x0000#16, rfl⟩ | .jsr => ⟨.jsrAbs 0x0000#16, rfl⟩ | .rts => ⟨.rts, rfl⟩
  | .pha => ⟨.pha, rfl⟩ | .pla => ⟨.pla, rfl⟩ | .php => ⟨.php, rfl⟩ | .plp => ⟨.plp, rfl⟩
  | .clc => ⟨.clc, rfl⟩ | .sec => ⟨.sec, rfl⟩ | .cli => ⟨.cli, rfl⟩ | .sei => ⟨.sei, rfl⟩
  | .cld => ⟨.cld, rfl⟩ | .sed => ⟨.sed, rfl⟩ | .clv => ⟨.clv, rfl⟩ | .nop => ⟨.nop, rfl⟩
  | .brk => ⟨.brk, rfl⟩ | .rti => ⟨.rti, rfl⟩

/-- ShiftsAndRotates: an accumulator form and a memory form of each mnemonic. -/
theorem test_meets_ShiftsAndRotates :
    ∀ m ∈ [Mnemonic.asl, .lsr, .rol, .ror], ∃ i j : Instr, i.mnemonic = some m ∧ i.operand = .acc ∧
      j.mnemonic = some m ∧ j.operand ≠ .acc := by
  intro m hm
  fin_cases hm
  · exact ⟨.aslAcc, .aslAbx 0xFFFF#16, rfl, rfl, rfl, by decide⟩
  · exact ⟨.lsrAcc, .lsrAbx 0xFFFF#16, rfl, rfl, rfl, by decide⟩
  · exact ⟨.rolAcc, .rolAbx 0xFFFF#16, rfl, rfl, rfl, by decide⟩
  · exact ⟨.rorAcc, .rorAbx 0xFFFF#16, rfl, rfl, rfl, by decide⟩

/-- BranchesOnOneFlag: BCC not taken, taken in the page, and taken backward out of page 0x80 with the smallest offset. -/
theorem test_meets_BranchesOnOneFlag :
    (0x25#8 : Byte).getLsbD 0 ≠ false ∧ (0x24#8 : Byte).getLsbD 0 = false ∧
    (0x8000#16 + 2#16 + (0x7F#8).signExtend 16).toNat / 256 = (0x8000#16 + 2#16).toNat / 256 ∧
    (0x8000#16 + 2#16 + (0x80#8).signExtend 16).toNat / 256 ≠ (0x8000#16 + 2#16).toNat / 256 := by decide

/-- EncodeOfDecode: the longest instruction, followed by one more byte. -/
theorem test_meets_EncodeOfDecode :
    decode [0xFD#8, 0xFF#8, 0xFF#8, 0x00#8] = .ok (.sbcAbx 0xFFFF#16, [0x00#8]) := by decide

/-- EncodingLinesAreTheOpcodeMap: an instruction, an entry, and a page-sensitive opcode. -/
theorem test_meets_EncodingLinesAreTheOpcodeMap :
    (Instr.sbcAbx 0xFFFF#16).mnemonic = some .sbc ∧ (⟨0xFD#8, .abx, 3, 4, true⟩ : Encoding) ∈ encodingsOf .sbc ∧
      pageSensitive 0xFD#8 = true := by decide

/-- The instruction fetched at `PC` 0xFFFF, whose operand bytes lie at 0x0000 and 0x0001. -/
def fetchedAtTop (op lo hi : Byte) : Instr :=
  (fetch (machineWith ⟨0x00#8, 0xFF#8, 0xFF#8, 0x24#8, 0xFD#8, 0xFFFF#16, 7⟩ [(0xFFFF, op), (0x0000, lo), (0x0001, hi)])).1

/-- ImmediateAndRelativeForms, at the last address. -/
theorem test_meets_ImmediateAndRelativeForms :
    (fetchedAtTop 0xA9#8 0xFF#8 0x00#8).operand = .imm 0xFF#8 ∧ (fetchedAtTop 0x90#8 0x80#8 0x00#8).operand = .rel 0x80#8 := by
  decide

/-- ZeroPageForms, at the last operand value. -/
theorem test_meets_ZeroPageForms :
    (fetchedAtTop 0xA5#8 0xFF#8 0x00#8).operand = .zp 0xFF#8 ∧ (fetchedAtTop 0xB5#8 0xFF#8 0x00#8).operand = .zpx 0xFF#8 ∧
      (fetchedAtTop 0xB6#8 0xFF#8 0x00#8).operand = .zpy 0xFF#8 ∧ (fetchedAtTop 0x96#8 0xFF#8 0x00#8).operand = .zpy 0xFF#8 := by
  decide

/-- AbsoluteForms, at the last operand value. -/
theorem test_meets_AbsoluteForms :
    (fetchedAtTop 0xAD#8 0xFF#8 0xFF#8).operand = .abs 0xFFFF#16 ∧
      (fetchedAtTop 0xBD#8 0xFF#8 0xFF#8).operand = .abx 0xFFFF#16 ∧
      (fetchedAtTop 0xB9#8 0xFF#8 0xFF#8).operand = .aby 0xFFFF#16 := by decide

/-- PointerForms, where the pointer's high byte wraps. -/
theorem test_meets_PointerForms :
    (fetchedAtTop 0x6C#8 0xFF#8 0x02#8).operand = .ind 0x02FF#16 ∧ (fetchedAtTop 0xA1#8 0x00#8 0x00#8).operand = .izx 0x00#8 ∧
      (fetchedAtTop 0xB1#8 0xFF#8 0x00#8).operand = .izy 0xFF#8 := by decide

/-- AddressHook: the toggle in both positions. -/
theorem test_meets_AddressHook :
    (ppuAt 0 0 false).w = false ∧ ({ ppuAt 0 0 false with w := true } : Ppu).w = true := by decide

/-- GapsStopTheMachine: the last gap as an instruction, a gap at `PC` with nothing pending, a gap with an NMI pending, and
the latch set. -/
theorem test_meets_GapsStopTheMachine :
    Instr.illegalFF.opcode ∈ gapBytes ∧ (atCode [(0x8000, 0x02#8)]).cpu.iq = [] ∧
      (memRead 0x8000#16 (atCode [(0x8000, 0x02#8)])).1 ∈ gapBytes ∧ (pending [.nmi]).cpu.iq = .nmi :: [] ∧
      ((pending []).mapCpu fun c => { c with halt := true }).cpu.halt = true := by decide

/-- InterruptService: each kind at the head of the queue. -/
theorem test_meets_InterruptService :
    (pending [.nmi]).cpu.iq = .nmi :: [] ∧ (pending [.irq, .nmi]).cpu.iq = .irq :: [.nmi] := by decide

/-- InterruptBeforeInstruction: a request that arrives before the step, with `P.I` 0. -/
theorem test_meets_InterruptBeforeInstruction :
    let s := { pending [] with inbox := [[.irqRequest]] }
    s.cpu.halt = false ∧ (deliverInbox s).cpu.iq = [.irq] := by decide

/-- InterruptRequests: `P.I` 0 and 1. -/
theorem test_meets_InterruptRequests : (pending []).cpu.flagI = false ∧ (atCode []).cpu.flagI = true := by decide

/-- StepRunsTheDecodedInstruction: LDX immediate at `PC`. -/
theorem test_meets_StepRunsTheDecodedInstruction :
    afterFirstDot.cpu.halt = false ∧ deliverInbox afterFirstDot = afterFirstDot ∧ afterFirstDot.cpu.iq = [] ∧
      (readsFrom 0x8000#16 2 afterFirstDot).1 = [0xA2#8, 0x0A#8] ∧ decode [0xA2#8, 0x0A#8] = .ok (.ldxImm 0x0A#8, []) :=
  ⟨by decide, rfl, by decide, by decide, by decide⟩

/-- OnlyHaltStopsAStep: the latch in both positions. -/
theorem test_meets_OnlyHaltStopsAStep :
    (atCode []).cpu.halt = false ∧ ((atCode []).mapCpu fun c => { c with halt := true }).cpu.halt = true := by decide

/-- CyclesBetweenTwoAndSeven: a legal instruction and its next state. -/
theorem test_meets_CyclesBetweenTwoAndSeven :
    ∃ t, Instr.wf (.ldaImm 0x00#8) = true ∧ exec (.ldaImm 0x00#8) (atCode []) = .next t := ⟨_, by decide, rfl⟩

/-- RenderPaintsEveryPixel: the last pixel's last byte. -/
theorem test_meets_RenderPaintsEveryPixel : 29 < 30 ∧ 31 < 32 ∧ 7 < 8 ∧ 7 < 8 ∧ 3 < 4 := by decide

/-- OneFrameEvery89342Dots: the first and the last coordinate. -/
theorem test_meets_OneFrameEvery89342Dots :
    CountersInRange (atCode []) ∧ CountersInRange ((atCode []).mapPpu fun _ => ppuAt 261 340 false) := by
  unfold CountersInRange; decide

/-- VblankWindow: the start, with every `n` up to the end of the frame. -/
theorem test_meets_VblankWindow :
    (atCode []).ppu.sl = 0 ∧ (atCode []).ppu.dot = 0 ∧ (atCode []).ppu.status.getLsbD 7 = false ∧
      ∀ n ∈ [0, 82182, 82183, 89002, 89003, 89342], n ≤ 89342 := by decide

/-- OneNmiPerArming: armed inside vblank. -/
theorem test_meets_OneNmiPerArming :
    let p := ({ ppuAt 261 0 true with nmiOcc := true } : Ppu)
    p.nmiOut = true ∧ p.nmiOcc = true ∧ ¬(p.sl = 261 ∧ p.dot = 1) ∧ 1 ≤ 1 := by decide

/-- LoaderFillsTheArrays: the smallest and the largest images, and no CHR image. -/
theorem test_meets_LoaderFillsTheArrays :
    (0 < [0xEA#8].length ∧ [0xEA#8].length ≤ 32768 ∧ ([] : List Byte).length ≤ 8192) ∧
      (0 < (List.replicate 32768 0xEA#8).length ∧ (List.replicate 32768 0xEA#8).length ≤ 32768 ∧
        (List.replicate 8192 0xFF#8).length ≤ 8192) := by
  simp only [List.length_replicate]; decide

/-- InvariantAtReset: images that make a machine. -/
theorem test_meets_InvariantAtReset : ∃ s, powerOnImages [0xEA#8] [] = some s := ⟨_, if_pos (by decide)⟩

theorem fb_of_atCode (cells : List (Nat × Byte)) : (atCode cells).ppu.fb.length = fbPixels := by
  show (List.replicate fbPixels Pixel.clear).length = fbPixels
  exact List.length_replicate

/-- StepKeepsTheInvariant: a state that meets the invariant and has a next state. -/
theorem test_meets_StepKeepsTheInvariant : Inv afterFirstDot ∧ ∃ t, step afterFirstDot = .next t :=
  ⟨{ counters := by unfold CountersInRange; decide
     statusBits := by unfold StatusBitsFixed; decide
     ppuStatus := by unfold PpuStatusLegal; decide
     arrays := by unfold ArraysCanonical; decide
     frameBuffer := fb_of_atCode [(0x8000, 0xA2#8), (0x8001, 0x0A#8)]
     oneNmi := by unfold OneNmiPending; decide }, _, rfl⟩

/-- StepKeepsDotsLocked: two cycles after reset, six dots in. -/
theorem test_meets_StepKeepsDotsLocked :
    let s := (afterFirstDot.mapCpu fun c => { c with cyc := 9 }).mapPpu fun p => { p with dot := 6 }
    CountersInRange s ∧ DotsLocked s ∧ ∃ t, step s = .next t :=
  ⟨by unfold CountersInRange; decide, by unfold DotsLocked; decide, _, rfl⟩

/-- The register that `exec i` changes, by name: whether each clause of WritersOfEachRegister has a case. -/
def changes (i : Instr) (s : State) (r : Cpu → Byte) : Bool :=
  match exec i s with
  | .next t => r t.cpu != r s.cpu
  | _ => false

/-- WritersOfEachRegister: a case for every clause. -/
theorem test_meets_WritersOfEachRegister :
    changes (.ldaImm 0x01#8) (atCode []) Cpu.a = true ∧ changes .inx (atCode []) Cpu.x = true ∧
    changes .iny (atCode []) Cpu.y = true ∧ changes .pha (atCode []) Cpu.sp = true ∧
    changes .sec (atCode []) (fun c => bitByte c.flagC) = true ∧ changes .cli (atCode []) (fun c => bitByte c.flagI) = true ∧
    changes (.ldaImm 0x00#8) (atCode []) (fun c => bitByte c.flagZ) = true ∧
    changes .sed (atCode []) (fun c => bitByte c.flagD) = true ∧
    changes (.adcImm 0x80#8) ((atCode []).mapCpu fun c => { c with a := 0x80#8 }) (fun c => bitByte c.flagV) = true := by
  decide

/-- CountersAreUnread: a legal instruction and its next state. -/
theorem test_meets_CountersAreUnread :
    ∃ t, Instr.wf (.adcAbx 0xFFFF#16) = true ∧ exec (.adcAbx 0xFFFF#16) (atCode []) = .next t := ⟨_, by decide, rfl⟩

/-- DecimalFlagIsInert: SBC, with its next state. -/
theorem test_meets_DecimalFlagIsInert :
    ∃ t, (Instr.sbcImm 0x09#8).mnemonic ∉ [some .php, some .plp, some .brk, some .rti, some .sed, some .cld] ∧
      exec (.sbcImm 0x09#8) (atCode []) = .next t := ⟨_, by decide, rfl⟩

/-- HostEventsPrecedeTheStep: an empty queue; two batches, the first with an event of each kind, on a running machine with
`LATCH` 1 and `P.I` 0, where the order of keydown and keyup of one button shows (R352, R407). -/
theorem test_meets_HostEventsPrecedeTheStep :
    let s := ((pending []).mapPad fun q => { q with latch := true })
    let t := { s with inbox := [[.keydown 7, .keydown 0, .keyup 7, .irqRequest], [.keyup 0]] }
    s.inbox = [] ∧ t.cpu.halt = false ∧ (deliverInbox t).pad.btn = 0x01#8 ∧ (deliverInbox t).pad.sr = 0x01#8 ∧
      (deliverInbox t).cpu.iq = [.irq] ∧ (deliverInbox t).inbox = [[.keyup 0]] ∧ ∃ u, step t = .next u :=
  ⟨rfl, by decide, by decide, by decide, by decide, by decide, _, rfl⟩

/-- The parameter `LEGAL_OPCODES` at its two ends of a row: 0x00 is legal, 0x02 and 0xFF are gaps (R121). -/
theorem test_legal_opcodes : isLegal 0x00#8 = true ∧ isLegal 0x02#8 = false ∧ isLegal 0xFF#8 = false := by decide

end Sys2Proof.Machine
end

section
/-! SUPPORT. The run invariant, kept by every step (10_state.md R30, R40, R41, R50; 60_exceptions.md R409). The invariant is
cut in two: what speaks of the PPU, the arrays and the fixed bits of `P` is kept by every bus access, CPU move, host event
and dot on its own; what speaks of `IQ` needs that a CPU step always leaves `IQ` empty before its dots run. -/

namespace Sys2Proof.Machine

/-- The part of the invariant that speaks of the PPU alone. -/
structure Ppu.Sound (p : Ppu) : Prop where
  counters : p.sl ≤ 261 ∧ p.dot ≤ 340
  status : p.status = 0x00#8 ∨ p.status = 0x80#8
  vram : p.vram.wf vramSize = true
  frame : p.fb.length = fbPixels

/-- The part of the invariant that does not speak of `IQ`. -/
structure State.Sound (s : State) : Prop where
  statusBits : StatusBitsFixed s
  mem : s.mem.wf busSize = true
  ppu : s.ppu.Sound

theorem inv_iff (s : State) : Inv s ↔ s.Sound ∧ OneNmiPending s where
  mp h := ⟨⟨h.statusBits, h.arrays.1, ⟨h.counters, h.ppuStatus, h.arrays.2, h.frameBuffer⟩⟩, h.oneNmi⟩
  mpr h := ⟨h.1.ppu.counters, h.1.statusBits, h.1.ppu.status, ⟨h.1.mem, h.1.ppu.vram⟩, h.1.ppu.frame, h.2⟩

/-! The PPU's hooks and its dot. -/

/-- `V[13:0]` names one of the 16384 cells (R318). -/
theorem Ppu.vramIndex_lt (p : Ppu) : p.vramIndex < vramSize := (p.v.extractLsb' 0 14).isLt

theorem Ppu.Sound.onRead2002 {p : Ppu} (h : p.Sound) : p.onRead2002.2.Sound where
  counters := h.counters
  status := by rcases h.status with e | e <;> simp [e, vblankMask]
  vram := h.vram
  frame := h.frame

theorem Ppu.Sound.onRead2007 {p : Ppu} (h : p.Sound) : p.onRead2007.2.Sound :=
  ⟨h.counters, h.status, h.vram, h.frame⟩

theorem Ppu.Sound.onWrite2000 {p : Ppu} (d : Byte) (h : p.Sound) : (p.onWrite2000 d).Sound :=
  ⟨h.counters, h.status, h.vram, h.frame⟩

theorem Ppu.Sound.onWrite2006 {p : Ppu} (d : Byte) (h : p.Sound) : (p.onWrite2006 d).Sound := by
  constructor <;> simp [h.counters, h.status, h.vram, h.frame]

theorem Ppu.Sound.onWrite2007 {p : Ppu} (d : Byte) (h : p.Sound) : (p.onWrite2007 d).Sound :=
  ⟨h.counters, h.status, Memory.wf_write d p.vramIndex_lt h.vram, h.frame⟩

theorem Ppu.Sound.tick {p : Ppu} (h : p.Sound) : p.tick.1.Sound where
  counters := Ppu.tick_inRange h.counters
  status := Ppu.tick_status h.status
  vram := h.vram
  frame := by
    rw [Ppu.tick_fb]
    split
    · exact p.renderFrame_length
    · exact h.frame

/-! The bus, the CPU's moves, the host's events and the dots. -/

theorem State.Sound.memRead {s : State} (a : Word) (h : s.Sound) : (memRead a s).2.Sound where
  statusBits := by simpa [StatusBitsFixed] using h.statusBits
  mem := by simpa using h.mem
  ppu := by
    rcases memRead_ppu a s with e | e | e <;> rw [e]
    · exact h.ppu
    · exact h.ppu.onRead2002
    · exact h.ppu.onRead2007

theorem State.Sound.memWrite {s : State} (a : Word) (v : Byte) (h : s.Sound) : (memWrite a v s).Sound where
  statusBits := by simpa [StatusBitsFixed] using h.statusBits
  mem := by rw [memWrite_mem]; exact Memory.wf_write v a.isLt h.mem
  ppu := by
    rcases memWrite_ppu a v s with e | e | e | e <;> rw [e]
    · exact h.ppu
    · exact h.ppu.onWrite2000 v
    · exact h.ppu.onWrite2006 v
    · exact h.ppu.onWrite2007 v

/-- A move of the CPU keeps the two bits of `P`, or forces them as a status pull does (R30). -/
theorem CpuMove.statusBits {c c' : Cpu} (h : CpuMove c c') (hc : c.flagE = true ∧ c.flagB = false) :
    c'.flagE = true ∧ c'.flagB = false := by
  obtain ⟨-, -, ⟨e, b⟩ | forced⟩ := h
  · exact ⟨e.trans hc.1, b.trans hc.2⟩
  · exact forced

theorem BusPath.keeps_sound {s t : State} (path : BusPath s t) (h : s.Sound) : t.Sound := by
  induction path with
  | start => exact h
  | read a _ ih => exact ih.memRead a
  | write a v _ ih => exact ih.memWrite a v
  | move f _ hf ih => exact ⟨hf.statusBits ih.statusBits, ih.mem, ih.ppu⟩

theorem State.Sound.deliver {s : State} (e : HostEvent) (h : s.Sound) : (deliver e s).Sound := by
  cases e with
  | keydown b => exact ⟨h.statusBits, h.mem, h.ppu⟩
  | keyup b => exact ⟨h.statusBits, h.mem, h.ppu⟩
  | irqRequest =>
    unfold Machine.deliver irqRequest
    dsimp only
    split
    · exact h
    · exact ⟨h.statusBits, h.mem, h.ppu⟩

theorem State.Sound.deliverAll {s : State} (events : List HostEvent) (h : s.Sound) : (deliverAll events s).Sound := by
  induction events generalizing s with
  | nil => exact h
  | cons e rest ih => exact ih (h.deliver e)

theorem State.Sound.deliverInbox {s : State} (h : s.Sound) : (deliverInbox s).Sound := by
  unfold Machine.deliverInbox
  split
  · exact h
  · exact State.Sound.deliverAll _ ⟨h.statusBits, h.mem, h.ppu⟩

theorem State.Sound.ppuStep {s : State} (h : s.Sound) : (ppuStep s).Sound :=
  ⟨h.statusBits, h.mem, h.ppu.tick⟩

/-- A dot raises an NMI only while `NMIOUT` is 1, when none is pending, and disarms it (R308, R409). -/
theorem oneNmiPending_ppuStep {s : State} (h : OneNmiPending s) : OneNmiPending (ppuStep s) := by
  obtain ⟨hcount, harmed⟩ := h
  unfold OneNmiPending
  rw [ppuStep_cpu, ppuStep_ppu, Ppu.tick_nmiOut]
  cases hraised : s.ppu.tick.2 with
  | false => exact ⟨hcount, harmed⟩
  | true =>
    have hnone : IntKind.nmi ∉ s.cpu.iq := fun hmem => by
      simp [Ppu.nmiOut_of_tick hraised] at harmed
      exact harmed hmem
    simp [List.count_eq_zero_of_not_mem hnone]

/-! One step. -/

theorem BusPath.iq {s t : State} (path : BusPath s t) : t.cpu.iq = s.cpu.iq := by
  induction path with
  | start => rfl
  | read a _ ih => simpa using ih
  | write a v _ ih => simpa using ih
  | move f _ hf ih => exact hf.1.trans ih

/-- `s` with nothing pending. -/
def State.nonePending (s : State) : State := s.mapCpu fun c => { c with iq := [] }

theorem State.Sound.nonePending {s : State} (h : s.Sound) : s.nonePending.Sound := ⟨h.statusBits, h.mem, h.ppu⟩

theorem oneNmiPending_of_empty {s : State} (h : s.cpu.iq = []) : OneNmiPending s := by
  simp [OneNmiPending, h]

theorem State.nonePending_of_empty {s : State} (h : s.cpu.iq = []) : s.nonePending = s := by
  rw [State.nonePending, State.mapCpu, ← h]

/-- Every CPU step has a next state, which it reaches by bus accesses and moves of the CPU and then an empty `IQ`: a service
empties the queue, and an instruction is fetched only when it is empty and does not touch it (R167, R410). -/
theorem cpuStep_next (s : State) :
    ∃ u, BusPath s u ∧ cpuStep s = .next u.nonePending := by
  cases hiq : s.cpu.iq with
  | cons k rest =>
    exact ⟨_, .spend config.intCycles (.enterVector s.cpu.pc (vectorOf k) .start), cpuStep_pending hiq⟩
  | nil =>
    obtain ⟨u, hu, hpath⟩ := exec_next_path (fetch s).1 (fetch s).2
    have path : BusPath s u := (BusPath.fetch s).trans hpath
    exact ⟨u, path, by rw [cpuStep_idle hiq, hu, State.nonePending_of_empty (path.iq.trans hiq)]⟩

/-- A step of a running machine: the host's events, a CPU step that leaves `IQ` empty, and dots (R356, R357). -/
theorem step_running {s : State} (h : s.cpu.halt = false) :
    ∃ u n, BusPath (deliverInbox s) u ∧ step s = .next (runDots n u.nonePending) := by
  obtain ⟨u, path, hu⟩ := cpuStep_next (deliverInbox s)
  exact ⟨u, _, path, by simp only [step, machineStep, h, systemStep, hu]; rfl⟩

/-- A stopped machine has no step (R35). -/
theorem step_halted {s : State} (h : s.cpu.halt = true) : step s = .fault .halted := by
  simp [step, machineStep, h]

/-- Settles O45: a stopped machine answers the fault, and a running one has a next state whatever it decodes. -/
theorem onlyHaltStopsAStep : Obligations.OnlyHaltStopsAStep := by
  intro s
  refine ⟨step_halted, fun h => ?_⟩
  obtain ⟨u, n, -, hstep⟩ := step_running h
  exact ⟨_, hstep⟩

/-- Settles O55: the host's events, the CPU step and the dots each keep the part without `IQ`, and the dots begin with `IQ`
empty and keep at most one NMI in it. -/
theorem stepKeepsTheInvariant : Obligations.StepKeepsTheInvariant := by
  intro s t hinv hstep
  obtain ⟨hsound, -⟩ := (inv_iff s).mp hinv
  cases hhalt : s.cpu.halt with
  | true => rw [step_halted hhalt] at hstep; cases hstep
  | false =>
    obtain ⟨u, n, path, hnext⟩ := step_running hhalt
    rw [hnext] at hstep
    cases hstep
    have hsound' : u.nonePending.Sound := (path.keeps_sound hsound.deliverInbox).nonePending
    exact (inv_iff _).mpr
      ⟨runDots_keeps (fun _ h => h.ppuStep) n hsound',
        runDots_keeps (fun _ h => oneNmiPending_ppuStep h) n (oneNmiPending_of_empty rfl)⟩

end Sys2Proof.Machine
end

section
/-! SUPPORT. Power-on and the loader (10_state.md R60; 70_reset_and_hazards.md R451, R455): the values at reset, what the
loaded arrays read as, and that the invariants hold of the machine they make. -/

namespace Sys2Proof.Machine

/-! The loaded arrays. -/

/-- The cell the loader makes for index `i`: none where the byte is what an unlisted address reads as. -/
def loadedCell (base : Nat) (f : Nat → Byte) (i : Nat) : Option Host.Cell :=
  if f i = Memory.unlisted then none else some (base + i, f i)

theorem loadImage_eq (base size : Nat) (image : List Byte) :
    loadImage base size image =
      (List.range size).filterMap (loadedCell base fun i => image.getD (i % image.length) Memory.unlisted) := rfl

theorem loadedCell_of_unlisted {base i : Nat} {f : Nat → Byte} (h : f i = Memory.unlisted) :
    loadedCell base f i = none := if_pos h

theorem loadedCell_of_listed {base i : Nat} {f : Nat → Byte} (h : f i ≠ Memory.unlisted) :
    loadedCell base f i = some (base + i, f i) := if_neg h

/-- The array of the cells for the indices `l` reads as `f` there, and as unlisted at any other index. -/
theorem Memory.read_loadedCells (base : Nat) (f : Nat → Byte) (l : List Nat) (j : Nat) :
    Memory.read (l.filterMap (loadedCell base f)) (base + j) = if j ∈ l then f j else unlisted := by
  induction l with
  | nil => rfl
  | cons i rest ih =>
    by_cases hu : f i = unlisted
    · rw [List.filterMap_cons_none (loadedCell_of_unlisted hu), ih]
      by_cases hij : j = i
      · subst hij; simp [hu]
      · simp [hij]
    · rw [List.filterMap_cons_some (loadedCell_of_listed hu), read_cons, ih]
      by_cases hij : j = i
      · simp [hij]
      · simp [hij, Ne.symm hij]

/-- The cells for rising indices are in canonical form. -/
theorem Memory.wfFrom_loadedCells (base : Nat) (f : Nat → Byte) {start n size : Nat} (h : base + start + n ≤ size) :
    Memory.wfFrom (base + start) size ((List.range' start n).filterMap (loadedCell base f)) = true := by
  induction n generalizing start with
  | zero => rfl
  | succ n ih =>
    have hrest := ih (start := start + 1) (by omega)
    rw [List.range'_succ]
    by_cases hu : f start = unlisted
    · rw [List.filterMap_cons_none (loadedCell_of_unlisted hu)]
      exact wfFrom_mono (by omega) hrest
    · rw [List.filterMap_cons_some (loadedCell_of_listed hu), wfFrom_cons]
      exact ⟨le_rfl, by omega, hu, hrest⟩

theorem Memory.wfFrom_loadImage {base size total : Nat} (image : List Byte) (h : base + size ≤ total) :
    Memory.wfFrom base total (loadImage base size image) = true := by
  rw [loadImage_eq, List.range_eq_range']
  exact Memory.wfFrom_loadedCells base _ (start := 0) h

/-- An image is repeated from `base` on (R455). -/
theorem Memory.read_loadImage (base : Nat) {size j : Nat} (image : List Byte) (h : j < size) :
    Memory.read (loadImage base size image) (base + j) = image.getD (j % image.length) 0x00#8 := by
  rw [loadImage_eq, read_loadedCells, if_pos (List.mem_range.mpr h)]
  rfl

/-- Nothing is loaded past the end. -/
theorem Memory.read_loadImage_above (base : Nat) {size j : Nat} (image : List Byte) (h : size ≤ j) :
    Memory.read (loadImage base size image) (base + j) = 0x00#8 := by
  rw [loadImage_eq, read_loadedCells, if_neg (by simpa using h)]
  rfl

/-- Nothing is loaded below `base`. -/
theorem Memory.read_loadImage_below {base a : Nat} (size : Nat) (image : List Byte) (h : a < base) :
    Memory.read (loadImage base size image) a = 0x00#8 :=
  read_of_wfFrom h (wfFrom_loadImage image le_rfl)

theorem loadPrg_wf (prg : List Byte) : (loadPrg prg).wf busSize = true :=
  Memory.wfFrom_mono (Nat.zero_le _) (Memory.wfFrom_loadImage (base := 0x8000) prg le_rfl)

theorem loadChr_of_ne_nil {chr : List Byte} (h : chr ≠ []) : loadChr chr = loadImage 0 8192 chr := if_neg h

theorem loadChr_wf (chr : List Byte) : (loadChr chr).wf vramSize = true := by
  by_cases h : chr = []
  · subst h; rfl
  · rw [loadChr_of_ne_nil h]
    exact Memory.wfFrom_loadImage chr (by decide)

theorem loadChr_read {chr : List Byte} (h : chr ≠ []) {i : Nat} (hi : i < 8192) :
    (loadChr chr).read i = chr.getD (i % chr.length) 0x00#8 := by
  simpa [loadChr_of_ne_nil h] using Memory.read_loadImage 0 chr hi

/-- The upper 8 KiB of VRAM are not loaded (D23). -/
theorem loadChr_read_above (chr : List Byte) {i : Nat} (hi : 8192 ≤ i) : (loadChr chr).read i = 0x00#8 := by
  by_cases h : chr = []
  · subst h; rfl
  · simpa [loadChr_of_ne_nil h] using Memory.read_loadImage_above 0 chr hi

/-- A machine made from images is power-on around the arrays the loader leaves (R450). -/
theorem powerOnImages_eq_some {prg chr : List Byte} {s : State} (h : powerOnImages prg chr = some s) :
    s = State.powerOn (loadPrg prg) (loadChr chr) := by
  unfold powerOnImages at h
  split at h
  · exact (Option.some.inj h).symm
  · cases h

/-- Settles O53: the arrays of the machine are the two images, each repeated over its own range. -/
theorem loaderFillsTheArrays : Obligations.LoaderFillsTheArrays := by
  intro prg chr hprg hprg' hchr
  refine ⟨_, if_pos ⟨hprg, hprg', hchr⟩, ?_⟩
  rw [State.powerOn_mem, State.powerOn_vram]
  refine ⟨fun i hi => Memory.read_loadImage 0x8000 prg hi, fun a ha => Memory.read_loadImage_below _ prg ha,
    fun h i hi => loadChr_read h hi, ?_, fun i hi => loadChr_read_above chr hi⟩
  rintro rfl i
  rfl

/-! Power-on. -/

/-- Every byte of a cleared frame buffer is zero, and so is every byte past its end (R52, R60). -/
theorem Ppu.fbByte_of_clear {p : Ppu} {n : Nat} (h : p.fb = List.replicate n Pixel.clear) (k : Nat) :
    p.fbByte k = 0x00#8 := by
  have hpixel : p.fb.getD (k / 4) Pixel.clear = Pixel.clear := by simp [h]
  unfold Ppu.fbByte
  rw [hpixel]
  dsimp only
  split <;> rfl

/-- Settles O52: `PC` is the word at the reset vector, and every other register has its reset value by definition. -/
theorem powerOnValues : Obligations.PowerOnValues := by
  intro mem vram
  refine ⟨rfl, rfl, rfl, rfl, rfl, joinBytes_toNat _ _, rfl, rfl, rfl, rfl, rfl, rfl, rfl, rfl, rfl, rfl, rfl, rfl, rfl, rfl,
    rfl, rfl, fun k => Ppu.fbByte_of_clear (n := fbPixels) rfl k, rfl, rfl, rfl⟩

@[simp] theorem State.powerOn_p (mem vram : Memory) : (State.powerOn mem vram).cpu.p = 0x24#8 := rfl
@[simp] theorem State.powerOn_cyc (mem vram : Memory) : (State.powerOn mem vram).cpu.cyc = 7 := rfl
@[simp] theorem State.powerOn_sl (mem vram : Memory) : (State.powerOn mem vram).ppu.sl = 0 := rfl
@[simp] theorem State.powerOn_dot (mem vram : Memory) : (State.powerOn mem vram).ppu.dot = 0 := rfl

theorem State.powerOn_frameBuffer (mem vram : Memory) : FrameBufferSized (State.powerOn mem vram) := by
  show (List.replicate fbPixels Pixel.clear).length = fbPixels
  exact List.length_replicate

/-- The run invariant holds after power-on around arrays in canonical form (R60). -/
theorem powerOn_inv {mem vram : Memory} (hmem : mem.wf busSize = true) (hvram : vram.wf vramSize = true) :
    Inv (State.powerOn mem vram) where
  counters := by simp [CountersInRange]
  statusBits := by simp [StatusBitsFixed, Cpu.flagE, Cpu.flagB]
  ppuStatus := .inl rfl
  arrays := ⟨hmem, hvram⟩
  frameBuffer := State.powerOn_frameBuffer mem vram
  oneNmi := oneNmiPending_of_empty rfl

/-- The coordinate begins at (0, 0) with the seven cycles of the reset counted (R355). -/
theorem powerOn_dotsLocked (mem vram : Memory) : DotsLocked (State.powerOn mem vram) := by
  simp [DotsLocked]

/-- Settles O54: reset is power-on around empty arrays, and the loader's arrays are in canonical form. -/
theorem invariantAtReset : Obligations.InvariantAtReset := by
  refine ⟨⟨powerOn_inv rfl rfl, powerOn_dotsLocked [] []⟩, fun prg chr s h => ?_⟩
  rw [powerOnImages_eq_some h]
  exact ⟨powerOn_inv (loadPrg_wf prg) (loadChr_wf chr), powerOn_dotsLocked _ _⟩

end Sys2Proof.Machine
end

section
/-! SUPPORT. What an instruction does, as one of fourteen shapes over the shared operations. `effectOf` gives each mnemonic
its shape and `exec_eq_run` ties the table to `exec`, so that a claim about every instruction is proved once per shape and
once per mnemonic. -/

namespace Sys2Proof.Machine

/-- The shapes of the instructions, each with what the mnemonic adds to it. -/
inductive Effect where
  /-- reads its operand and computes on the CPU (R180, R200 to R208) -/
  | compute (f : Byte → Cpu → Cpu)
  /-- stores a register (R183 to R185) -/
  | store (reg : Cpu → Byte)
  /-- reads a byte of memory and writes it back changed (R209, R210) -/
  | modify (f : Byte → Cpu → Byte × Cpu)
  /-- the same, or on `A` in the accumulator form (R230 to R233) -/
  | shift (f : Byte → Cpu → Byte × Cpu)
  /-- works on registers and flags alone (R152) -/
  | inherent (f : Cpu → Cpu)
  /-- branches on a condition of the flags (R166) -/
  | branch (cond : Cpu → Bool)
  /-- pushes a byte of the CPU (R260, R262) -/
  | push (reg : Cpu → Byte)
  /-- pulls a byte into the CPU (R261, R263) -/
  | pull (f : Byte → Cpu → Cpu)
  /-- JMP (R248) -/
  | jump
  /-- JSR (R249) -/
  | call
  /-- RTS (R250) -/
  | ret
  /-- BRK (R272) -/
  | brk
  /-- RTI (R273) -/
  | rti
  /-- a gap (R402) -/
  | fatal

/-- The shape of a mnemonic; a gap has none and is fatal (R116, R121). -/
def effectOf : Option Mnemonic → Effect
  | some .lda => .compute Cpu.lda | some .ldx => .compute Cpu.ldx | some .ldy => .compute Cpu.ldy
  | some .sta => .store Cpu.a | some .stx => .store Cpu.x | some .sty => .store Cpu.y
  | some .tax => .inherent Cpu.tax | some .tay => .inherent Cpu.tay | some .txa => .inherent Cpu.txa
  | some .tya => .inherent Cpu.tya | some .tsx => .inherent Cpu.tsx | some .txs => .inherent Cpu.txs
  | some .adc => .compute Cpu.adc | some .sbc => .compute Cpu.sbc
  | some .and => .compute Cpu.andA | some .ora => .compute Cpu.oraA | some .eor => .compute Cpu.eorA
  | some .cmp => .compute Cpu.cmpA | some .cpx => .compute Cpu.cmpX | some .cpy => .compute Cpu.cmpY
  | some .bit => .compute Cpu.bitTest
  | some .inc => .modify Cpu.incM | some .dec => .modify Cpu.decM
  | some .inx => .inherent Cpu.inx | some .iny => .inherent Cpu.iny
  | some .dex => .inherent Cpu.dex | some .dey => .inherent Cpu.dey
  | some .asl => .shift Cpu.asl | some .lsr => .shift Cpu.lsr
  | some .rol => .shift Cpu.rol | some .ror => .shift Cpu.ror
  | some .bcc => .branch fun c => !c.flagC | some .bcs => .branch Cpu.flagC
  | some .bne => .branch fun c => !c.flagZ | some .beq => .branch Cpu.flagZ
  | some .bpl => .branch fun c => !c.flagN | some .bmi => .branch Cpu.flagN
  | some .bvc => .branch fun c => !c.flagV | some .bvs => .branch Cpu.flagV
  | some .jmp => .jump | some .jsr => .call | some .rts => .ret
  | some .pha => .push Cpu.a | some .pla => .pull Cpu.lda
  | some .php => .push fun c => pushedStatus c.p | some .plp => .pull Cpu.pullP
  | some .clc => .inherent (Cpu.setC false) | some .sec => .inherent (Cpu.setC true)
  | some .cli => .inherent (Cpu.setI false) | some .sei => .inherent (Cpu.setI true)
  | some .cld => .inherent (Cpu.setD false) | some .sed => .inherent (Cpu.setD true)
  | some .clv => .inherent (Cpu.setV false) | some .nop => .inherent id
  | some .brk => .brk | some .rti => .rti
  | none => .fatal

/-- The offset byte of a branch (R151). -/
def branchOffset : Operand → Byte
  | .rel off => off
  | _ => 0x00#8

/-- The next state of the instruction `i` under a shape. -/
def Effect.run (e : Effect) (i : Instr) (s : State) : State :=
  match e with
  | .compute f => retire i.opcode (resolve i.operand s).crossed
      ((operandValue i.operand s).2.mapCpu (f (operandValue i.operand s).1))
  | .store reg => storeOperand i.opcode (resolve i.operand s) reg
  | .modify f => modifyOperand i.opcode (resolve i.operand s) f
  | .shift f =>
    if i.operand = .acc then modifyAccumulator i.opcode f s else modifyOperand i.opcode (resolve i.operand s) f
  | .inherent f => Machine.inherent i.opcode f s
  | .branch cond => Machine.branch i.opcode (cond s.cpu) (branchOffset i.operand) s
  | .push reg => retire i.opcode false (Machine.push (reg s.cpu) s)
  | .pull f => retire i.opcode false ((Machine.pull s).2.mapCpu (f (Machine.pull s).1))
  | .jump => retireAt i.opcode ((resolve i.operand s).st.jump (resolve i.operand s).addr)
  | .call => retireAt i.opcode ((pushWord (s.cpu.pc + 2#16) s).jump (resolve i.operand s).addr)
  | .ret => retireAt i.opcode ((pullWord s).2.jump ((pullWord s).1 + 1#16))
  | .brk => retireAt i.opcode (enterVector (s.cpu.pc + 2#16) config.vecIrq s)
  | .rti => retireAt i.opcode (returnFromInterrupt s)
  | .fatal => raiseFatal i.opcode s

/-- Every instruction answers the next state its shape gives. -/
theorem exec_eq_run (i : Instr) (s : State) : exec i s = .next ((effectOf i.mnemonic).run i s) := by
  cases i <;> rfl

theorem exec_eq_next {i : Instr} {s t : State} (h : exec i s = .next t) : t = (effectOf i.mnemonic).run i s := by
  rw [exec_eq_run] at h
  exact (Host.Outcome.next.inj h).symm

end Sys2Proof.Machine
end

section
/-! SUPPORT. Who writes what (10_state.md R20 to R34, R40): the byte registers and the bits of `P` a mnemonic writes, as two
tables, and that an instruction keeps every other register and bit; what no bus access and no CPU move touches. -/

namespace Sys2Proof.Machine

/-- Every byte register but those in `written` and every bit of `P` outside `flags` is as it was. -/
def WritesOnly (written : List Reg) (flags : Byte) (c c' : Cpu) : Prop :=
  RegsKeptBut written c c' ∧ FlagsKept flags c c'

theorem WritesOnly.refl (written : List Reg) (flags : Byte) (c : Cpu) : WritesOnly written flags c c :=
  ⟨fun _ _ => rfl, .refl flags c⟩

theorem WritesOnly.trans {written : List Reg} {flags : Byte} {c c' c'' : Cpu} (h : WritesOnly written flags c c')
    (h' : WritesOnly written flags c' c'') : WritesOnly written flags c c'' :=
  ⟨fun r hr => (h'.1 r hr).trans (h.1 r hr), h.2.trans h'.2⟩

/-- Nothing is written where every byte register and `P` are as they were. -/
theorem WritesOnly.of_same {written : List Reg} {flags : Byte} {c c' : Cpu} (ha : c'.a = c.a) (hx : c'.x = c.x)
    (hy : c'.y = c.y) (hsp : c'.sp = c.sp) (hp : c'.p = c.p) : WritesOnly written flags c c' :=
  ⟨fun r _ => by cases r <;> assumption, by rw [FlagsKept, hp]⟩

/-- The byte registers a mnemonic writes (R20 to R23). -/
def regsWritten : Option Mnemonic → List Reg
  | some .lda | some .txa | some .tya | some .adc | some .sbc | some .and | some .ora | some .eor
  | some .asl | some .lsr | some .rol | some .ror => [.a]
  | some .ldx | some .tax | some .tsx | some .inx | some .dex => [.x]
  | some .ldy | some .tay | some .iny | some .dey => [.y]
  | some .pla => [.a, .sp]
  | some .txs | some .pha | some .php | some .plp | some .jsr | some .rts | some .brk | some .rti => [.sp]
  | _ => []

/-- The bits of `P` a mnemonic writes (R26 to R32). -/
def flagsWritten : Option Mnemonic → Byte
  | some .adc | some .sbc => 0xC3#8
  | some .bit => 0xC2#8
  | some .cmp | some .cpx | some .cpy | some .asl | some .lsr | some .rol | some .ror => 0x83#8
  | some .lda | some .ldx | some .ldy | some .pla | some .tax | some .tay | some .txa | some .tya | some .tsx
  | some .and | some .ora | some .eor | some .inc | some .dec | some .inx | some .iny | some .dex | some .dey => 0x82#8
  | some .clc | some .sec => maskC
  | some .cli | some .sei | some .brk => maskI
  | some .cld | some .sed => maskD
  | some .clv => maskV
  | some .plp | some .rti => 0xFF#8
  | _ => 0x00#8

/-- What a shape must say of the functions it carries, for its instructions to write only what is listed. -/
def Effect.Confined (written : List Reg) (flags : Byte) : Effect → Prop
  | .compute f => ∀ m c, WritesOnly written flags c (f m c)
  | .modify f => ∀ m c, WritesOnly written flags c (f m c).2
  | .shift f => .a ∈ written ∧ ∀ m c, WritesOnly written flags c (f m c).2
  | .inherent f => ∀ c, WritesOnly written flags c (f c)
  | .push _ | .call | .ret => .sp ∈ written
  | .pull f => .sp ∈ written ∧ ∀ m c, WritesOnly written flags c (f m c)
  | .brk => .sp ∈ written ∧ maskI &&& ~~~flags = 0#8
  | .rti => .sp ∈ written ∧ flags = 0xFF#8
  | .store _ | .branch _ | .jump | .fatal => True

section Shapes

variable {written : List Reg} {flags : Byte} {c c' : Cpu}

/-- `SP` and listed flags alone were written, whatever became of `PC` and `CYC`. -/
theorem WritesOnly.of_sp (h : .sp ∈ written) (ha : c'.a = c.a) (hx : c'.x = c.x) (hy : c'.y = c.y)
    (hp : FlagsKept flags c c') : WritesOnly written flags c c' :=
  ⟨fun r hr => by cases r with | sp => exact absurd h hr | a => exact ha | x => exact hx | y => exact hy, hp⟩

theorem WritesOnly.of_a (h : .a ∈ written) (v : Byte) : WritesOnly written flags c { c with a := v } :=
  ⟨fun r hr => by cases r with | a => exact absurd h hr | _ => rfl, rfl⟩

theorem WritesOnly.of_x (h : .x ∈ written) (v : Byte) : WritesOnly written flags c { c with x := v } :=
  ⟨fun r hr => by cases r with | x => exact absurd h hr | _ => rfl, rfl⟩

theorem WritesOnly.of_y (h : .y ∈ written) (v : Byte) : WritesOnly written flags c { c with y := v } :=
  ⟨fun r hr => by cases r with | y => exact absurd h hr | _ => rfl, rfl⟩

theorem WritesOnly.putFlag {mask : Byte} (h : WritesOnly written flags c c') (hm : mask &&& ~~~flags = 0#8) (v : Bool) :
    WritesOnly written flags c { c' with p := putFlag mask v c'.p } :=
  h.trans ⟨fun r _ => by cases r <;> rfl, .of_putFlag v hm rfl⟩

theorem WritesOnly.setZN (h : WritesOnly written flags c c') (hm : 0x82#8 &&& ~~~flags = 0#8) (v : Byte) :
    WritesOnly written flags c (c'.setZN v) :=
  h.trans ⟨fun r _ => by cases r <;> rfl, (c'.setZN_kept v).widen hm⟩

/-- Where every bit of `P` may be written, none need be kept. -/
theorem FlagsKept.of_all (h : flags = 0xFF#8) (c c' : Cpu) : FlagsKept flags c c' := by
  subst h
  simp [FlagsKept]

/-- `PC` and `CYC` are no byte registers. -/
theorem WritesOnly.ends (h : WritesOnly written flags c c') (pc : Word) (cyc : Nat) :
    WritesOnly written flags c { c' with pc := pc, cyc := cyc } :=
  h.trans (.of_same rfl rfl rfl rfl rfl)

theorem WritesOnly.modifyOperand {f : Byte → Cpu → Byte × Cpu} (hf : ∀ m c, WritesOnly written flags c (f m c).2)
    (op : Byte) (o : Operand) (s : State) :
    WritesOnly written flags s.cpu (modifyOperand op (resolve o s) f).cpu := by
  refine .ends ?_ _ _
  rw [memWrite_cpu, State.mapCpu_cpu, memRead_cpu, resolve_st_cpu]
  exact hf _ _

theorem WritesOnly.pull (h : .sp ∈ written) (s : State) : WritesOnly written flags s.cpu (pull s).2.cpu := by
  rw [pull_eq]
  exact .of_sp h rfl rfl rfl rfl

/-- An instruction writes only what the functions of its shape write, and the stack instructions `SP`. -/
theorem Effect.Confined.run {e : Effect} (he : e.Confined written flags) (i : Instr) (s : State) :
    WritesOnly written flags s.cpu (e.run i s).cpu := by
  cases e with
  | compute f =>
    refine .ends ?_ _ _
    rw [State.mapCpu_cpu, operandValue_cpu]
    exact he _ _
  | store reg =>
    refine .ends ?_ _ _
    rw [memWrite_cpu, resolve_st_cpu]
    exact .refl _ _ _
  | modify f => exact .modifyOperand he _ _ _
  | shift f =>
    obtain ⟨ha, hf⟩ := he
    simp only [Effect.run]
    split
    · exact .ends (.trans (hf _ _) (.of_a ha _)) _ _
    · exact .modifyOperand hf _ _ _
  | inherent f => exact .ends (he s.cpu) _ _
  | branch cond => exact .of_same rfl rfl rfl rfl rfl
  | push reg =>
    refine .ends ?_ _ _
    rw [push_eq]
    exact .of_sp he rfl rfl rfl rfl
  | pull f =>
    obtain ⟨hsp, hf⟩ := he
    exact .ends (.trans (.pull hsp s) (hf _ _)) _ _
  | jump =>
    refine .ends ?_ _ _
    rw [State.jump_cpu, resolve_st_cpu]
    exact .of_same rfl rfl rfl rfl rfl
  | call =>
    refine .ends ?_ _ _
    rw [pushWord_eq]
    exact .of_sp he rfl rfl rfl rfl
  | ret =>
    refine .ends ?_ _ _
    rw [pullWord_eq]
    exact .of_sp he rfl rfl rfl rfl
  | brk =>
    refine .ends ?_ _ _
    rw [show config.vecIrq = vectorOf .irq from rfl, enterVector_eq]
    exact .of_sp he.1 rfl rfl rfl (.of_putFlag true he.2 rfl)
  | rti =>
    refine .ends ?_ _ _
    rw [returnFromInterrupt_eq]
    exact .of_sp he.1 rfl rfl rfl (.of_all he.2 _ _)
  | fatal => exact .of_same rfl rfl rfl rfl rfl

theorem WritesOnly.adcCore (ha : .a ∈ written) (hp : 0xC3#8 &&& ~~~flags = 0#8) (b vb : Byte) :
    WritesOnly written flags c (c.adcCore b vb) :=
  ⟨fun r hr => by cases r with | a => exact absurd ha hr | _ => rfl, (c.adcCore_kept b vb).widen hp⟩

end Shapes

/-- The tables list what each mnemonic writes. -/
theorem effectOf_confined (m : Option Mnemonic) : (effectOf m).Confined (regsWritten m) (flagsWritten m) := by
  cases m with
  | none => trivial
  | some m =>
    cases m with
    | lda | and | ora | eor => exact fun _ _ => .setZN (.of_a (by decide) _) (by decide) _
    | txa | tya => exact fun _ => .setZN (.of_a (by decide) _) (by decide) _
    | ldx => exact fun _ _ => .setZN (.of_x (by decide) _) (by decide) _
    | tax | tsx | inx | dex => exact fun _ => .setZN (.of_x (by decide) _) (by decide) _
    | ldy => exact fun _ _ => .setZN (.of_y (by decide) _) (by decide) _
    | tay | iny | dey => exact fun _ => .setZN (.of_y (by decide) _) (by decide) _
    | adc | sbc => exact fun _ _ => .adcCore (by decide) (by decide) _ _
    | cmp | cpx | cpy => exact fun m c => ⟨fun r _ => by cases r <;> rfl, c.cmpCore_kept _ m⟩
    | bit => exact fun m c => ⟨fun r _ => by cases r <;> rfl, c.bitTest_kept m⟩
    | inc | dec => exact fun _ _ => .setZN (.refl _ _ _) (by decide) _
    | asl | lsr | rol | ror => exact ⟨by decide, fun _ c => ⟨fun r _ => by cases r <;> rfl, c.shifted_kept _ _⟩⟩
    | clc | sec | cli | sei | cld | sed | clv => exact fun _ => .putFlag (.refl _ _ _) (by decide) _
    | txs => exact fun _ => .of_sp (by decide) rfl rfl rfl rfl
    | nop => exact fun _ => .refl _ _ _
    | pla => exact ⟨by decide, fun _ _ => .setZN (.of_a (by decide) _) (by decide) _⟩
    | plp => exact ⟨by decide, fun _ _ => .of_sp (by decide) rfl rfl rfl (.of_all rfl _ _)⟩
    | pha | php | jsr | rts => exact List.mem_singleton_self _
    | brk => exact ⟨by decide, by decide⟩
    | rti => exact ⟨by decide, rfl⟩
    | sta | stx | sty | jmp | bcc | bcs | beq | bne | bmi | bpl | bvc | bvs => trivial

theorem exec_writesOnly {i : Instr} {s t : State} (h : exec i s = .next t) :
    WritesOnly (regsWritten i.mnemonic) (flagsWritten i.mnemonic) s.cpu t.cpu :=
  exec_eq_next h ▸ (effectOf_confined i.mnemonic).run i s

/-- A register that changed is a listed one. -/
theorem WritesOnly.reg_mem {written : List Reg} {flags : Byte} {c c' : Cpu} (h : WritesOnly written flags c c') (r : Reg)
    (hne : c'.reg r ≠ c.reg r) : r ∈ written :=
  by_contra fun hr => hne (h.1 r hr)

/-- A bit of `P` that changed is a listed one. -/
theorem WritesOnly.bit_set {written : List Reg} {flags : Byte} {c c' : Cpu} (h : WritesOnly written flags c c') {n : Nat}
    (hn : n < 8) (hne : c'.p.getLsbD n ≠ c.p.getLsbD n) : flags.getLsbD n = true :=
  by_contra fun hf => hne (h.2.bit hn (by simpa using hf))

/-! What no bus access and no move of the CPU touches. -/

/-- The dot counters, the frame buffer, the frame count and `FX` are as they were. -/
def Ppu.TimingKept (p p' : Ppu) : Prop :=
  p'.sl = p.sl ∧ p'.dot = p.dot ∧ p'.fb = p.fb ∧ p'.framesRaised = p.framesRaised ∧ p'.fx = p.fx

theorem Ppu.TimingKept.trans {p p' p'' : Ppu} (h : p.TimingKept p') (h' : p'.TimingKept p'') : p.TimingKept p'' := by
  obtain ⟨h1, h2, h3, h4, h5⟩ := h
  obtain ⟨h1', h2', h3', h4', h5'⟩ := h'
  exact ⟨h1'.trans h1, h2'.trans h2, h3'.trans h3, h4'.trans h4, h5'.trans h5⟩

theorem memRead_timingKept (a : Word) (s : State) : s.ppu.TimingKept (memRead a s).2.ppu := by
  rcases memRead_ppu a s with e | e | e <;> rw [e] <;> exact ⟨rfl, rfl, rfl, rfl, rfl⟩

theorem memWrite_timingKept (a : Word) (v : Byte) (s : State) : s.ppu.TimingKept (memWrite a v s).ppu := by
  rcases memWrite_ppu a v s with e | e | e | e <;> rw [e] <;> simp [Ppu.TimingKept]

@[simp] theorem memRead_btn (a : Word) (s : State) : (memRead a s).2.pad.btn = s.pad.btn := by
  rcases memRead_pad a s with e | e <;> rw [e]
  rfl

@[simp] theorem memWrite_btn (a : Word) (v : Byte) (s : State) : (memWrite a v s).pad.btn = s.pad.btn := by
  unfold memWrite writeHook
  split_ifs <;> rfl

/-- Bus accesses keep the dot counters and what only the dots write, and the host's side of the input (R40, R56). -/
theorem BusPath.keeps_timing {s t : State} (path : BusPath s t) :
    s.ppu.TimingKept t.ppu ∧ t.pad.btn = s.pad.btn ∧ t.inbox = s.inbox := by
  induction path with
  | start => exact ⟨⟨rfl, rfl, rfl, rfl, rfl⟩, rfl, rfl⟩
  | read a _ ih => exact ⟨ih.1.trans (memRead_timingKept a _), by simpa using ih.2⟩
  | write a v _ ih => exact ⟨ih.1.trans (memWrite_timingKept a v _), by simpa using ih.2⟩
  | move f _ _ ih => exact ih

/-! The statement. -/

/-- The mnemonics of R116, and `none` for a gap. -/
def mnemonics : List (Option Mnemonic) :=
  none :: [.adc, .and, .asl, .bcc, .bcs, .beq, .bit, .bmi, .bne, .bpl, .brk, .bvc, .bvs, .clc, .cld, .cli, .clv, .cmp, .cpx,
    .cpy, .dec, .dex, .dey, .eor, .inc, .inx, .iny, .jmp, .jsr, .lda, .ldx, .ldy, .lsr, .nop, .ora, .pha, .php, .pla, .plp,
    .rol, .ror, .rti, .rts, .sbc, .sec, .sed, .sei, .sta, .stx, .sty, .tax, .tay, .tsx, .txa, .txs, .tya].map some

theorem mem_mnemonics (m : Option Mnemonic) : m ∈ mnemonics := by
  cases m with
  | none => decide
  | some m => cases m <;> decide

/-- Settles O57: a register or flag that changed is one its mnemonic's tables list, and the tables list it only for the
mnemonics named; the rest no bus access and no CPU move touches. -/
theorem writersOfEachRegister : Obligations.WritersOfEachRegister := by
  intro i s t h
  have w := exec_writesOnly h
  obtain ⟨⟨hsl, hdot, hfb, hframes, hfx⟩, hbtn, hinbox⟩ := (exec_path h).keeps_timing
  have named {listed : Option Mnemonic → Prop} {names : List (Option Mnemonic)}
      (hall : ∀ m ∈ mnemonics, listed m → m ∈ names) : listed i.mnemonic → i.mnemonic ∈ names :=
    hall _ (mem_mnemonics _)
  refine ⟨fun hne => named (listed := fun m => .a ∈ regsWritten m) (by decide) (w.reg_mem .a hne),
    fun hne => named (listed := fun m => .x ∈ regsWritten m) (by decide) (w.reg_mem .x hne),
    fun hne => named (listed := fun m => .y ∈ regsWritten m) (by decide) (w.reg_mem .y hne),
    fun hne => named (listed := fun m => .sp ∈ regsWritten m) (by decide) (w.reg_mem .sp hne),
    fun hne => named (listed := fun m => (flagsWritten m).getLsbD 0) (by decide) (w.bit_set (by decide) hne),
    fun hne => named (listed := fun m => (flagsWritten m).getLsbD 1 ∨ (flagsWritten m).getLsbD 7) (by decide)
      (hne.imp (w.bit_set (by decide)) (w.bit_set (by decide))),
    fun hne => named (listed := fun m => (flagsWritten m).getLsbD 2) (by decide) (w.bit_set (by decide) hne),
    fun hne => named (listed := fun m => (flagsWritten m).getLsbD 3) (by decide) (w.bit_set (by decide) hne),
    fun hne => named (listed := fun m => (flagsWritten m).getLsbD 6) (by decide) (w.bit_set (by decide) hne),
    (exec_path h).iq, hsl, hdot, hfb, hframes, hfx, hbtn, hinbox⟩

end Sys2Proof.Machine
end

section
/-! SUPPORT. What the instructions do not read (10_state.md R29, R33, R34, R40, R41). A change `g` of the CPU and a change `q`
of the PPU is set aside where no shared operation reads what it changes; an instruction whose own functions do not read it
either does the same before the change as after it. -/

namespace Sys2Proof.Machine

/-- `g` changes nothing of the CPU that an operand form, the stack or the end of an instruction reads. -/
structure Cpu.Aside (g : Cpu → Cpu) : Prop where
  a : ∀ c, (g c).a = c.a
  x : ∀ c, (g c).x = c.x
  y : ∀ c, (g c).y = c.y
  sp : ∀ c, (g c).sp = c.sp
  pc : ∀ c, (g c).pc = c.pc
  setA : ∀ v c, { g c with a := v } = g { c with a := v }
  setSp : ∀ v c, { g c with sp := v } = g { c with sp := v }
  ends : ∀ v n c, { g c with pc := v, cyc := (g c).cyc + n } = g { c with pc := v, cyc := c.cyc + n }

/-- `q` changes nothing of the PPU that a register hook reads. -/
structure Ppu.Aside (q : Ppu → Ppu) : Prop where
  onRead2002 : ∀ p, (q p).onRead2002 = (p.onRead2002.1, q p.onRead2002.2)
  onRead2007 : ∀ p, (q p).onRead2007 = (p.onRead2007.1, q p.onRead2007.2)
  onWrite2000 : ∀ d p, (q p).onWrite2000 d = q (p.onWrite2000 d)
  onWrite2006 : ∀ d p, (q p).onWrite2006 d = q (p.onWrite2006 d)
  onWrite2007 : ∀ d p, (q p).onWrite2007 d = q (p.onWrite2007 d)

/-- The state with `g` done to the CPU and `q` to the PPU. -/
def State.aside (g : Cpu → Cpu) (q : Ppu → Ppu) (s : State) : State := { s with cpu := g s.cpu, ppu := q s.ppu }

/-- What a shape must say of the functions it carries, for its instructions not to read what `g` changes. -/
def Effect.Aside (g : Cpu → Cpu) : Effect → Prop
  | .compute f => ∀ m c, f m (g c) = g (f m c)
  | .store reg => ∀ c, reg (g c) = reg c
  | .modify f => ∀ m c, f m (g c) = ((f m c).1, g (f m c).2)
  | .shift f => ∀ m c, f m (g c) = ((f m c).1, g (f m c).2)
  | .inherent f => ∀ c, f (g c) = g (f c)
  | .branch cond => ∀ c, cond (g c) = cond c
  | .push reg => ∀ c, reg (g c) = reg c
  | .pull f => ∀ m c, f m (g c) = g (f m c)
  | .jump | .call | .ret => True
  | .brk => (∀ c, (g c).p = c.p) ∧ ∀ c, (g c).setI true = g (c.setI true)
  | .rti => ∀ v c, (g c).pullP v = g (c.pullP v)
  | .fatal => ∀ op c, { g c with halt := true, haltOpcode := op, haltCyc := (g c).cyc } =
      g { c with halt := true, haltOpcode := op, haltCyc := c.cyc }

section SetAside

variable {g : Cpu → Cpu} {q : Ppu → Ppu} (hg : Cpu.Aside g) (hq : Ppu.Aside q)

theorem mapCpu_aside {f : Cpu → Cpu} {s : State} (hf : f (g s.cpu) = g (f s.cpu)) :
    (s.aside g q).mapCpu f = (s.mapCpu f).aside g q := by
  simp only [State.mapCpu, State.aside, hf]

include hq in
theorem memRead_aside (a : Word) (s : State) :
    memRead a (s.aside g q) = ((memRead a s).1, (memRead a s).2.aside g q) := by
  unfold memRead State.aside
  dsimp only
  rw [hq.onRead2002, hq.onRead2007]
  split_ifs <;> rfl

include hq in
theorem memWrite_aside (a : Word) (v : Byte) (s : State) :
    memWrite a v (s.aside g q) = (memWrite a v s).aside g q := by
  unfold memWrite writeHook State.mapPpu State.aside State.poke
  dsimp only
  rw [hq.onWrite2000, hq.onWrite2006, hq.onWrite2007]
  split_ifs <;> rfl

include hg

theorem jump_aside (target : Word) (s : State) : (s.aside g q).jump target = (s.jump target).aside g q :=
  mapCpu_aside (hg.ends target 0 s.cpu)

theorem spend_aside (n : Nat) (s : State) : (s.aside g q).spend n = (s.spend n).aside g q :=
  mapCpu_aside (by rw [← hg.ends, hg.pc])

theorem retire_aside (op : Byte) (crossed : Bool) (s : State) :
    retire op crossed (s.aside g q) = (retire op crossed s).aside g q :=
  mapCpu_aside (by rw [← hg.ends, hg.pc])

include hq

theorem push_aside (v : Byte) (s : State) : push v (s.aside g q) = (push v s).aside g q := by
  unfold push
  rw [show (s.aside g q).cpu.sp = s.cpu.sp from hg.sp _, memWrite_aside hq]
  exact mapCpu_aside (by rw [hg.sp, hg.setSp])

theorem pull_aside (s : State) : pull (s.aside g q) = ((pull s).1, (pull s).2.aside g q) := by
  have h : (s.aside g q).mapCpu (fun c => { c with sp := c.sp + 1#8 }) =
      (s.mapCpu fun c => { c with sp := c.sp + 1#8 }).aside g q := mapCpu_aside (by rw [hg.sp, hg.setSp])
  unfold pull
  dsimp only
  rw [h, memRead_aside hq]
  dsimp only [State.aside]
  rw [hg.sp]

theorem pushWord_aside (v : Word) (s : State) : pushWord v (s.aside g q) = (pushWord v s).aside g q := by
  simp only [pushWord, push_aside hg hq]

theorem pullWord_aside (s : State) : pullWord (s.aside g q) = ((pullWord s).1, (pullWord s).2.aside g q) := by
  simp only [pullWord, pull_aside hg hq]

omit hg in
theorem read16_aside (a : Word) (s : State) : read16 a (s.aside g q) = ((read16 a s).1, (read16 a s).2.aside g q) := by
  simp only [read16, memRead_aside hq]

/-- A resolver finds the same address and makes the same reads. -/
theorem resolve_aside (o : Operand) (s : State) :
    resolve o (s.aside g q) = ⟨(resolve o s).addr, (resolve o s).crossed, (resolve o s).st.aside g q⟩ := by
  have hx : (s.aside g q).cpu.x = s.cpu.x := hg.x _
  have hy : (s.aside g q).cpu.y = s.cpu.y := hg.y _
  have hpc : (s.aside g q).cpu.pc = s.cpu.pc := hg.pc _
  have hpeek (a : Word) : (s.aside g q).peek a = s.peek a := rfl
  cases o <;> simp only [resolve, eaImm, eaZp, eaZpx, eaZpy, eaAbs, eaAbx, eaAby, eaInd, eaIzx, eaIzy, indexed,
    zpPointer_eq, memRead_aside hq, hx, hy, hpc, hpeek]

theorem operandValue_aside (o : Operand) (s : State) :
    operandValue o (s.aside g q) = ((operandValue o s).1, (operandValue o s).2.aside g q) := by
  cases o <;> simp only [operandValue, resolve_aside hg hq, memRead_aside hq]

theorem modifyOperand_aside {f : Byte → Cpu → Byte × Cpu} (hf : ∀ m c, f m (g c) = ((f m c).1, g (f m c).2)) (op : Byte)
    (o : Operand) (s : State) :
    modifyOperand op (resolve o (s.aside g q)) f = (modifyOperand op (resolve o s) f).aside g q := by
  have hcpu (m : Byte) (u : State) : f m (u.aside g q).cpu = ((f m u.cpu).1, g (f m u.cpu).2) := hf m u.cpu
  have hset (c : Cpu) (u : State) : (u.aside g q).mapCpu (fun _ => g c) = (u.mapCpu fun _ => c).aside g q := rfl
  simp only [modifyOperand, resolve_aside hg hq, memRead_aside hq, hcpu, hset, memWrite_aside hq, retire_aside hg]

omit hq in
theorem modifyAccumulator_aside {f : Byte → Cpu → Byte × Cpu} (hf : ∀ m c, f m (g c) = ((f m c).1, g (f m c).2))
    (op : Byte) (s : State) : modifyAccumulator op f (s.aside g q) = (modifyAccumulator op f s).aside g q := by
  unfold modifyAccumulator
  rw [mapCpu_aside (by rw [hg.a, hf, hg.setA]), retire_aside hg]

omit hq in
theorem branch_aside (op : Byte) (taken : Bool) (off : Byte) (s : State) :
    branch op taken off (s.aside g q) = (branch op taken off s).aside g q := by
  have hpc : (s.aside g q).cpu.pc = s.cpu.pc := hg.pc _
  simp only [branch, hpc, retireAt, jump_aside hg, spend_aside hg]

/-- The entry through a vector pushes `P`, so only a change that keeps `P` is set aside by it. -/
theorem enterVector_aside (hp : ∀ c, (g c).p = c.p) (hi : ∀ c, (g c).setI true = g (c.setI true)) (ret vec : Word)
    (s : State) : enterVector ret vec (s.aside g q) = (enterVector ret vec s).aside g q := by
  have hpushed : (s.aside g q).cpu.p = s.cpu.p := hp _
  simp only [enterVector, hpushed, pushWord_aside hg hq, push_aside hg hq]
  rw [mapCpu_aside (hi _)]
  simp only [read16_aside hq, jump_aside hg]

theorem returnFromInterrupt_aside (hp : ∀ v c, (g c).pullP v = g (c.pullP v)) (s : State) :
    returnFromInterrupt (s.aside g q) = (returnFromInterrupt s).aside g q := by
  have hpull (v : Byte) (u : State) : (u.aside g q).mapCpu (fun c => { c with p := pulledStatus v }) =
      (u.mapCpu fun c => { c with p := pulledStatus v }).aside g q := mapCpu_aside (f := Cpu.pullP v) (hp v _)
  simp only [returnFromInterrupt, pull_aside hg hq, hpull, pullWord_aside hg hq, jump_aside hg]

/-- An instruction that does not read what is set aside does the same before the change as after it. -/
theorem Effect.Aside.run {e : Effect} (he : e.Aside g) (i : Instr) (s : State) :
    e.run i (s.aside g q) = (e.run i s).aside g q := by
  cases e with
  | compute f =>
    simp only [Effect.run, resolve_aside hg hq, operandValue_aside hg hq]
    rw [mapCpu_aside (he _ _), retire_aside hg]
  | store reg =>
    have hreg (u : State) : reg (u.aside g q).cpu = reg u.cpu := he _
    simp only [Effect.run, storeOperand, resolve_aside hg hq, hreg, memWrite_aside hq, retire_aside hg]
  | modify f => exact modifyOperand_aside hg hq he _ _ _
  | shift f =>
    simp only [Effect.run]
    split
    · exact modifyAccumulator_aside hg he _ _
    · exact modifyOperand_aside hg hq he _ _ _
  | inherent f =>
    simp only [Effect.run, Machine.inherent]
    rw [mapCpu_aside (he _), retire_aside hg]
  | branch cond =>
    have hcond : cond (s.aside g q).cpu = cond s.cpu := he _
    simp only [Effect.run, hcond, branch_aside hg]
  | push reg =>
    have hreg : reg (s.aside g q).cpu = reg s.cpu := he _
    simp only [Effect.run, hreg, push_aside hg hq, retire_aside hg]
  | pull f =>
    simp only [Effect.run, pull_aside hg hq]
    rw [mapCpu_aside (he _ _), retire_aside hg]
  | jump => simp only [Effect.run, retireAt, resolve_aside hg hq, jump_aside hg, spend_aside hg]
  | call =>
    have hpc : (s.aside g q).cpu.pc = s.cpu.pc := hg.pc _
    simp only [Effect.run, retireAt, hpc, resolve_aside hg hq, pushWord_aside hg hq, jump_aside hg, spend_aside hg]
  | ret => simp only [Effect.run, retireAt, pullWord_aside hg hq, jump_aside hg, spend_aside hg]
  | brk =>
    have hpc : (s.aside g q).cpu.pc = s.cpu.pc := hg.pc _
    simp only [Effect.run, retireAt, hpc, enterVector_aside hg hq he.1 he.2, spend_aside hg]
  | rti => simp only [Effect.run, retireAt, returnFromInterrupt_aside hg hq he, spend_aside hg]
  | fatal =>
    exact mapCpu_aside (f := fun c => { c with halt := true, haltOpcode := i.opcode, haltCyc := c.cyc }) (he _ _)

/-- The same of `exec`. -/
theorem exec_aside {i : Instr} {s t : State} (he : (effectOf i.mnemonic).Aside g) (h : exec i s = .next t) :
    exec i (s.aside g q) = .next (t.aside g q) := by
  rw [exec_eq_run, he.run hg hq, exec_eq_next h]

end SetAside

/-! The counters (R33, R34, R40, R41). -/

/-- `CYC` moved on by `n` and `IQ` set to `iq`. -/
def Cpu.recount (n : Nat) (iq : List IntKind) (c : Cpu) : Cpu := { c with cyc := c.cyc + n, iq := iq }

/-- The coordinate set to `(sl, dot)`. -/
def Ppu.moveTo (sl dot : Nat) (p : Ppu) : Ppu := { p with sl := sl, dot := dot }

theorem Cpu.recount_aside (n : Nat) (iq : List IntKind) : Cpu.Aside (Cpu.recount n iq) where
  a _ := rfl
  x _ := rfl
  y _ := rfl
  sp _ := rfl
  pc _ := rfl
  setA _ _ := rfl
  setSp _ _ := rfl
  ends v k c := by simp only [Cpu.recount, Nat.add_right_comm]

theorem Ppu.moveTo_aside (sl dot : Nat) : Ppu.Aside (Ppu.moveTo sl dot) where
  onRead2002 _ := rfl
  onRead2007 _ := rfl
  onWrite2000 _ _ := rfl
  onWrite2006 d p := by
    unfold Ppu.onWrite2006 Ppu.moveTo
    dsimp only
    split <;> rfl
  onWrite2007 _ _ := rfl

/-- No legal instruction's own function reads or writes `CYC` or `IQ`; a gap records `CYC`. -/
theorem effectOf_aside_recount (n : Nat) (iq : List IntKind) (m : Mnemonic) :
    (effectOf (some m)).Aside (Cpu.recount n iq) := by
  cases m with
  | lda | ldx | ldy | adc | sbc | and | ora | eor | cmp | cpx | cpy | bit | pla | plp | rti => exact fun _ _ => rfl
  | inc | dec | asl | lsr | rol | ror => exact fun _ _ => rfl
  | tax | tay | txa | tya | tsx | txs | inx | iny | dex | dey | nop => exact fun _ => rfl
  | clc | sec | cli | sei | cld | sed | clv => exact fun _ => rfl
  | sta | stx | sty | pha | php | bcc | bcs | beq | bne | bmi | bpl | bvc | bvs => exact fun _ => rfl
  | jmp | jsr | rts => trivial
  | brk => exact ⟨fun _ => rfl, fun _ => rfl⟩

/-- `s` with `CYC` at 0: the state the two runs of a comparison both come from. -/
def State.uncounted (s : State) : State := s.mapCpu fun c => { c with cyc := 0 }

/-- Settles O58: both states are the state with `CYC` at 0 recounted, and recounting can be done after the instruction as
well as before it. -/
theorem countersAreUnread : Obligations.CountersAreUnread := by
  intro i s t cyc iq sl dot hwf h
  obtain ⟨m, hm⟩ := Option.isSome_iff_exists.mp (i.wf_eq ▸ hwf)
  obtain ⟨u, hu, -⟩ := exec_next_path i s.uncounted
  have recounted (n : Nat) (q : List IntKind) (line d : Nat) :
      exec i (s.uncounted.aside (Cpu.recount n q) (Ppu.moveTo line d)) =
        .next (u.aside (Cpu.recount n q) (Ppu.moveTo line d)) :=
    exec_aside (Cpu.recount_aside n q) (Ppu.moveTo_aside line d) (hm ▸ effectOf_aside_recount n q m) hu
  have hs : s.uncounted.aside (Cpu.recount s.cpu.cyc s.cpu.iq) (Ppu.moveTo s.ppu.sl s.ppu.dot) = s := by
    simp [State.uncounted, State.aside, Cpu.recount, Ppu.moveTo]
  have hs' : s.uncounted.aside (Cpu.recount cyc iq) (Ppu.moveTo sl dot) =
      { s with cpu := { s.cpu with cyc := cyc, iq := iq }, ppu := { s.ppu with sl := sl, dot := dot } } := by
    simp [State.uncounted, State.aside, Cpu.recount, Ppu.moveTo]
  have ht : t = u.aside (Cpu.recount s.cpu.cyc s.cpu.iq) (Ppu.moveTo s.ppu.sl s.ppu.dot) := by
    have hrun := recounted s.cpu.cyc s.cpu.iq s.ppu.sl s.ppu.dot
    rw [hs, h] at hrun
    exact Host.Outcome.next.inj hrun
  rw [← hs', recounted, ht]
  simp [State.aside, Cpu.recount, Ppu.moveTo, Nat.add_comm]

/-! The Decimal flag (R29). -/

/-- Flags of different masks are written in either order. -/
theorem putFlag_comm {mask mask' : Byte} (h : mask &&& mask' = 0#8) (v v' : Bool) (p : Byte) :
    putFlag mask v (putFlag mask' v' p) = putFlag mask' v' (putFlag mask v p) := by
  ext n hn
  have hb : (mask.getLsbD n && mask'.getLsbD n) = false := by simpa using congrArg (·.getLsbD n) h
  simp only [← BitVec.getLsbD_eq_getElem, putFlag_bit _ _ _ n hn]
  cases hm : mask.getLsbD n <;> cases hm' : mask'.getLsbD n <;> simp_all

section Decimal

variable {c c' : Cpu} (d v : Bool)

theorem Cpu.setC_setD (h : c' = c.setD d) : c'.setC v = (c.setC v).setD d := by
  simp only [h, Cpu.setC, Cpu.setD, putFlag_comm (mask := maskC) (mask' := maskD) (by decide)]

theorem Cpu.setZ_setD (h : c' = c.setD d) : c'.setZ v = (c.setZ v).setD d := by
  simp only [h, Cpu.setZ, Cpu.setD, putFlag_comm (mask := maskZ) (mask' := maskD) (by decide)]

theorem Cpu.setI_setD (h : c' = c.setD d) : c'.setI v = (c.setI v).setD d := by
  simp only [h, Cpu.setI, Cpu.setD, putFlag_comm (mask := maskI) (mask' := maskD) (by decide)]

theorem Cpu.setV_setD (h : c' = c.setD d) : c'.setV v = (c.setV v).setD d := by
  simp only [h, Cpu.setV, Cpu.setD, putFlag_comm (mask := maskV) (mask' := maskD) (by decide)]

theorem Cpu.setN_setD (h : c' = c.setD d) : c'.setN v = (c.setN v).setD d := by
  simp only [h, Cpu.setN, Cpu.setD, putFlag_comm (mask := maskN) (mask' := maskD) (by decide)]

theorem Cpu.setZN_setD (r : Byte) (h : c' = c.setD d) : c'.setZN r = (c.setZN r).setD d :=
  Cpu.setN_setD d _ (Cpu.setZ_setD d _ h)

/-- A bit of `P` other than Decimal reads the same with Decimal written. -/
theorem Cpu.setD_bit {n : Nat} (hn : n < 8) (hd : maskD.getLsbD n = false) (c : Cpu) :
    (c.setD d).p.getLsbD n = c.p.getLsbD n := by
  simp [putFlag_bit _ _ _ n hn, hd]

theorem Cpu.setD_flagC (c : Cpu) : (c.setD d).flagC = c.flagC := c.setD_bit d (by decide) (by decide)
theorem Cpu.setD_flagZ (c : Cpu) : (c.setD d).flagZ = c.flagZ := c.setD_bit d (by decide) (by decide)
theorem Cpu.setD_flagV (c : Cpu) : (c.setD d).flagV = c.flagV := c.setD_bit d (by decide) (by decide)
theorem Cpu.setD_flagN (c : Cpu) : (c.setD d).flagN = c.flagN := c.setD_bit d (by decide) (by decide)

/-- The adder of ADC and SBC does not consult Decimal (R29, R164). -/
theorem Cpu.adcCore_setD (b vb : Byte) (c : Cpu) : (c.setD d).adcCore b vb = (c.adcCore b vb).setD d := by
  unfold Cpu.adcCore
  rw [Cpu.setD_flagC]
  exact Cpu.setZN_setD d _ (Cpu.setV_setD d _ (Cpu.setC_setD d _ rfl))

theorem Cpu.cmpCore_setD (r m : Byte) (c : Cpu) : (c.setD d).cmpCore r m = (c.cmpCore r m).setD d :=
  Cpu.setZN_setD d _ (Cpu.setC_setD d _ rfl)

theorem Cpu.bitTest_setD (m : Byte) (c : Cpu) : (c.setD d).bitTest m = (c.bitTest m).setD d :=
  Cpu.setV_setD d _ (Cpu.setN_setD d _ (Cpu.setZ_setD d _ rfl))

theorem Cpu.shifted_setD (out : Bool) (r : Byte) (c : Cpu) :
    (c.setD d).shifted out r = (r, (c.shifted out r).2.setD d) :=
  Prod.ext rfl (Cpu.setZN_setD d _ (Cpu.setC_setD d _ rfl))

theorem Cpu.setD_aside : Cpu.Aside (Cpu.setD d) where
  a _ := rfl
  x _ := rfl
  y _ := rfl
  sp _ := rfl
  pc _ := rfl
  setA _ _ := rfl
  setSp _ _ := rfl
  ends _ _ _ := rfl

theorem Ppu.id_aside : Ppu.Aside id := ⟨fun _ => rfl, fun _ => rfl, fun _ _ => rfl, fun _ _ => rfl, fun _ _ => rfl⟩

/-- No instruction but the six that write the flag or move the whole status reads Decimal. -/
theorem effectOf_aside_setD {m : Option Mnemonic}
    (hm : m ∉ [some .php, some .plp, some .brk, some .rti, some .sed, some .cld]) :
    (effectOf m).Aside (Cpu.setD d) := by
  cases m with
  | none => exact fun _ _ => rfl
  | some m =>
    cases m with
    | lda | ldx | ldy | and | ora | eor | pla => exact fun _ _ => Cpu.setZN_setD d _ rfl
    | tax | tay | txa | tya | tsx | inx | iny | dex | dey => exact fun _ => Cpu.setZN_setD d _ rfl
    | adc | sbc => exact fun _ _ => Cpu.adcCore_setD d _ _ _
    | cmp | cpx | cpy => exact fun _ _ => Cpu.cmpCore_setD d _ _ _
    | bit => exact fun _ _ => Cpu.bitTest_setD d _ _
    | inc | dec => exact fun _ _ => Prod.ext rfl (Cpu.setZN_setD d _ rfl)
    | asl | lsr => exact fun _ _ => Cpu.shifted_setD d _ _ _
    | rol => exact fun m c => by rw [Cpu.rol, Cpu.setD_flagC, Cpu.shifted_setD]; rfl
    | ror => exact fun m c => by rw [Cpu.ror, Cpu.setD_flagC, Cpu.shifted_setD]; rfl
    | bcs => exact Cpu.setD_flagC d
    | bcc => exact fun c => congrArg not (c.setD_flagC d)
    | beq => exact Cpu.setD_flagZ d
    | bne => exact fun c => congrArg not (c.setD_flagZ d)
    | bvs => exact Cpu.setD_flagV d
    | bvc => exact fun c => congrArg not (c.setD_flagV d)
    | bmi => exact Cpu.setD_flagN d
    | bpl => exact fun c => congrArg not (c.setD_flagN d)
    | clc | sec => exact fun _ => Cpu.setC_setD d _ rfl
    | cli | sei => exact fun _ => Cpu.setI_setD d _ rfl
    | clv => exact fun _ => Cpu.setV_setD d _ rfl
    | sta | stx | sty | pha | txs | nop => exact fun _ => rfl
    | jmp | jsr | rts => trivial
    | php | plp | brk | rti | sed | cld => exact absurd (by decide) hm

end Decimal

/-- Settles O59: writing Decimal is set aside by every instruction but the six. -/
theorem decimalFlagIsInert : Obligations.DecimalFlagIsInert := by
  intro i s t d hm h
  exact exec_aside (Cpu.setD_aside d) Ppu.id_aside (effectOf_aside_setD d hm) h

end Sys2Proof.Machine
end

section
/-! SUPPORT. The fetch (20_memory.md R72): one equation for each number of operand bytes, and the reads from `PC` on that it
makes. -/

namespace Sys2Proof.Machine

section Fetch

variable {s : State}

theorem fetch_of_no_operand (h : operandBytes (fetchByte 0#16 s).1 = 0) :
    fetch s = (assemble (fetchByte 0#16 s).1 0x00#8 0x00#8, (fetchByte 0#16 s).2) := by
  simp only [fetch, h]

theorem fetch_of_byte_operand (h : operandBytes (fetchByte 0#16 s).1 = 1) :
    fetch s = (assemble (fetchByte 0#16 s).1 (fetchByte 1#16 (fetchByte 0#16 s).2).1 0x00#8,
      (fetchByte 1#16 (fetchByte 0#16 s).2).2) := by
  simp only [fetch, h]

theorem fetch_of_word_operand (h : operandBytes (fetchByte 0#16 s).1 = 2) :
    fetch s = (assemble (fetchByte 0#16 s).1 (fetchByte 1#16 (fetchByte 0#16 s).2).1
        (fetchByte 2#16 (fetchByte 1#16 (fetchByte 0#16 s).2).2).1,
      (fetchByte 2#16 (fetchByte 1#16 (fetchByte 0#16 s).2).2).2) := by
  simp only [fetch, h]

variable (s)

/-- The opcode of the fetched instruction is the first byte read. -/
@[simp] theorem fetch_opcode : (fetch s).1.opcode = (fetchByte 0#16 s).1 := by
  unfold fetch
  dsimp only
  split <;> exact assemble_opcode _ _ _

/-- The opcode byte alone says how many bytes a fetch reads (R110). -/
theorem fetch_length : (fetch s).1.length = operandBytes (fetchByte 0#16 s).1 + 1 := by
  rw [Instr.length, fetch_opcode, opcodeLength_eq]

/-! A bus read keeps `PC`, so each read by rising address from `PC` on is a `fetchByte` at the next offset. -/

theorem readsFrom_pc_one : readsFrom s.cpu.pc 1 s = ([(fetchByte 0#16 s).1], (fetchByte 0#16 s).2) := by
  simp [readsFrom, fetchByte]

theorem readsFrom_pc_two : readsFrom s.cpu.pc 2 s =
    ([(fetchByte 0#16 s).1, (fetchByte 1#16 (fetchByte 0#16 s).2).1], (fetchByte 1#16 (fetchByte 0#16 s).2).2) := by
  simp [readsFrom, fetchByte]

theorem readsFrom_pc_three : readsFrom s.cpu.pc 3 s =
    ([(fetchByte 0#16 s).1, (fetchByte 1#16 (fetchByte 0#16 s).2).1,
        (fetchByte 2#16 (fetchByte 1#16 (fetchByte 0#16 s).2).2).1],
      (fetchByte 2#16 (fetchByte 1#16 (fetchByte 0#16 s).2).2).2) := by
  simp [readsFrom, fetchByte, BitVec.add_assoc]

end Fetch

/-- Settles O6, by the number of operand bytes: the bytes read are the ones the instruction is assembled from. -/
theorem fetchReadsTheEncoding : Obligations.FetchReadsTheEncoding := by
  intro s
  have hle := operandBytes_le (fetchByte 0#16 s).1
  obtain h | h | h : operandBytes (fetchByte 0#16 s).1 = 0 ∨ operandBytes (fetchByte 0#16 s).1 = 1 ∨
      operandBytes (fetchByte 0#16 s).1 = 2 := by omega
  · rw [fetch_length, h, readsFrom_pc_one, fetch_of_no_operand h, encode_assemble, h]
    rfl
  · rw [fetch_length, h, readsFrom_pc_two, fetch_of_byte_operand h, encode_assemble, h]
    rfl
  · rw [fetch_length, h, readsFrom_pc_three, fetch_of_word_operand h, encode_assemble, h]
    rfl

end Sys2Proof.Machine
end

section
/-! SUPPORT. The decoder and the encoder (30_encoding.md R110 to R114), both said through `assemble`: a list of bytes decodes
exactly when it begins with an opcode and the operand bytes of its format, and every instruction is assembled from such
bytes. -/

namespace Sys2Proof.Machine

/-- Only the operand bytes the format has matter to the instruction (R112, R113). -/
theorem assemble_congr {op b1 b2 c1 c2 : Byte} (h : [b1, b2].take (operandBytes op) = [c1, c2].take (operandBytes op)) :
    assemble op b1 b2 = assemble op c1 c2 := by
  have hrow := rowFor op
  unfold assemble
  cases hr : rowOf op with
  | noOperand i => rfl
  | byteOperand f =>
    rw [hr] at hrow
    obtain ⟨hop, hbytes⟩ := hrow b1
    have hone : operandBytes op = 1 := by rw [← hop, operandBytes_opcode, hbytes, List.length_singleton]
    obtain rfl : b1 = c1 := by simpa [hone] using h
    rfl
  | wordOperand f =>
    rw [hr] at hrow
    obtain ⟨hop, hbytes⟩ := hrow (joinBytes b2 b1)
    have htwo : operandBytes op = 2 := by rw [← hop, operandBytes_opcode, hbytes]; rfl
    obtain ⟨rfl, rfl⟩ : b1 = c1 ∧ b2 = c2 := by simpa [htwo] using h
    rfl

/-- Every instruction is assembled from its own opcode and some operand bytes (R114). -/
theorem exists_assemble (i : Instr) : ∃ b1 b2, assemble i.opcode b1 b2 = i := by
  obtain ⟨hr, -⟩ | ⟨f, v, hr, hi, -⟩ | ⟨f, v, hr, hi, -⟩ := row_shape i
  · exact ⟨0x00#8, 0x00#8, by rw [assemble, hr]⟩
  · exact ⟨v, 0x00#8, by rw [assemble, hr, hi]⟩
  · exact ⟨loByte v, hiByte v, by rw [assemble, hr, hi]; simp only [joinBytes_hi_lo]⟩

/-- The opcode and the operand bytes of its format decode to the instruction assembled from them (R110, R111). -/
theorem decode_assembled (op b1 b2 : Byte) (rest : List Byte) :
    decode (op :: ([b1, b2].take (operandBytes op) ++ rest)) = .ok (assemble op b1 b2, rest) := by
  have hle := operandBytes_le op
  unfold decode
  dsimp only
  obtain h | h | h : operandBytes op = 0 ∨ operandBytes op = 1 ∨ operandBytes op = 2 := by omega
  · have hsame : assemble op b1 b2 = assemble op 0x00#8 0x00#8 := assemble_congr (by rw [h]; rfl)
    rw [h, hsame]
    rfl
  · have hsame : assemble op b1 b2 = assemble op b1 0x00#8 := assemble_congr (by rw [h]; rfl)
    rw [h, hsame]
    rfl
  · rw [h]
    rfl

/-- Whatever decodes is an opcode, the operand bytes of its format, and the rest (R110, R111). -/
theorem decode_cases {bs rest : List Byte} {i : Instr} (h : decode bs = .ok (i, rest)) :
    ∃ op b1 b2, i = assemble op b1 b2 ∧ bs = op :: ([b1, b2].take (operandBytes op) ++ rest) := by
  unfold decode at h
  split at h
  · cases h
  · next op tail =>
    split at h
    · next hn => cases h; exact ⟨op, 0x00#8, 0x00#8, rfl, by simp [hn]⟩
    · next b1 tail hn => cases h; exact ⟨op, b1, 0x00#8, rfl, by simp [hn]⟩
    · next b1 b2 tail hn => cases h; exact ⟨op, b1, b2, rfl, by simp [hn]⟩
    · cases h

/-- Settles O2: the instruction is assembled from its opcode and its operand bytes, and those are its encoding. -/
theorem decodeOfEncode : Obligations.DecodeOfEncode := by
  intro i rest
  obtain ⟨b1, b2, hi⟩ := exists_assemble i
  have h := decode_assembled i.opcode b1 b2 rest
  rwa [← List.cons_append, ← encode_assemble, hi] at h

/-- Settles O3: what decodes is the bytes the answer is assembled from, and those are its encoding. -/
theorem encodeOfDecode : Obligations.EncodeOfDecode := by
  intro bs rest i h
  obtain ⟨op, b1, b2, rfl, rfl⟩ := decode_cases h
  rw [encode_assemble, List.cons_append]

/-- Settles O1: each of the words is what the encoder writes for its instruction, so the round trip reads it back. -/
theorem decodeReadsTheSpecWords : Obligations.DecodeReadsTheSpecWords :=
  ⟨decodeOfEncode (.ldaImm 0x80#8) [], decodeOfEncode (.staAbs 0x2000#16) [], decodeOfEncode (.ldaZpx 0xF0#8) [],
    decodeOfEncode .aslAcc [], decodeOfEncode (.bcc 0x05#8) [], decodeOfEncode (.jmpInd 0x02FF#16) [],
    decodeOfEncode (.jsrAbs 0x8010#16) [], decodeOfEncode .brk [0xEA#8], decodeOfEncode .illegal02 [0x00#8]⟩

end Sys2Proof.Machine
end

section
/-! SUPPORT. The encoding lines of the mnemonics' rules against the matrix and its tables (30_encoding.md R111, R115, R118,
R119). Both sides are functions of the opcode byte, so they are compared once for each of the 256 bytes and carried over to
the instructions by their opcode. -/

namespace Sys2Proof.Machine

/-- The entry that the matrix and its three tables give the opcode byte `op` (R111, R115, R118, R119). -/
def tableEntry (op : Byte) : Encoding where
  opcode := op
  format := formatOf (assemble op 0x00#8 0x00#8).operand
  bytes := opcodeLength op
  cycles := baseCycles op
  plus := pageSensitive op

/-- The rule of every legal opcode's mnemonic lists the opcode's own entry (R115, R116). -/
theorem tableEntry_listed : ∀ op : Byte, ∀ m ∈ (assemble op 0x00#8 0x00#8).mnemonic, tableEntry op ∈ encodingsOf m := by
  decide

/-- A rule lists only entries of its own mnemonic's opcodes, as the tables give them (R115, R116). -/
theorem eq_tableEntry_of_listed (m : Mnemonic) :
    ∀ e ∈ encodingsOf m, (assemble e.opcode 0x00#8 0x00#8).mnemonic = some m ∧ tableEntry e.opcode = e := by
  cases m <;> decide

/-- The page-sensitive opcodes are legal (R119). -/
theorem pageSensitive_legal :
    ∀ op : Byte, pageSensitive op = true → (assemble op 0x00#8 0x00#8).mnemonic.isSome = true := by decide

/-- The format is a function of the opcode byte alone (R110, R114). -/
theorem assemble_format (i : Instr) (b1 b2 : Byte) :
    formatOf (assemble i.opcode b1 b2).operand = formatOf i.operand := by
  cases i <;> simp only [Instr.opcode] <;> rfl

/-- An instruction is encoded as the entry of its opcode says (R111, R113). -/
theorem encodedAs_tableEntry (i : Instr) : EncodedAs i (tableEntry i.opcode) :=
  ⟨rfl, (assemble_format i _ _).symm, (opcodeLength_opcode i).symm⟩

/-- Settles O4: the entry of a legal instruction is its opcode's in the tables, and the rules list exactly those. -/
theorem encodingLinesAreTheOpcodeMap : Obligations.EncodingLinesAreTheOpcodeMap := by
  refine ⟨fun i m hm => ?_, fun m e he => ?_, fun op hop => ?_⟩
  · have hlisted := tableEntry_listed i.opcode m ((assemble_mnemonic i _ _).trans hm)
    exact ⟨_, hlisted, encodedAs_tableEntry i, rfl, rfl, rfl⟩
  · obtain ⟨hm, heq⟩ := eq_tableEntry_of_listed m e he
    have henc := encodedAs_tableEntry (assemble e.opcode 0x00#8 0x00#8)
    rw [assemble_opcode, heq] at henc
    exact ⟨_, hm, henc⟩
  · obtain ⟨m, hm⟩ := Option.isSome_iff_exists.mp (pageSensitive_legal op hop)
    exact ⟨m, _, tableEntry_listed op m hm, rfl, hop⟩

end Sys2Proof.Machine
end

section
/-! SUPPORT. The gaps (30_encoding.md R121; 60_exceptions.md R402, R403): the listed bytes are the opcodes without a mnemonic,
and executing or stepping on one raises `Fatal` and nothing else. -/

namespace Sys2Proof.Machine

/-- The listed bytes are the opcode bytes whose row of the matrix has no mnemonic, in rising order (R121). -/
theorem gapBytes_eq : gapBytes =
    ((List.range 256).map (BitVec.ofNat 8)).filter fun op => (assemble op 0x00#8 0x00#8).mnemonic.isNone := by decide

theorem mem_gapBytes (op : Byte) : op ∈ gapBytes ↔ (assemble op 0x00#8 0x00#8).mnemonic = none := by
  have hbyte : ∃ n < 256, BitVec.ofNat 8 n = op := ⟨op.toNat, op.isLt, BitVec.ofNat_toNat ..⟩
  rw [gapBytes_eq]
  simp [hbyte]

/-- An instruction has a listed opcode exactly when it has no mnemonic (R121, R122). -/
theorem opcode_mem_gapBytes (i : Instr) : i.opcode ∈ gapBytes ↔ i.mnemonic = none := by
  rw [mem_gapBytes, assemble_mnemonic]

/-- Settles O5: an instruction is ill-formed when it has no mnemonic, and the list is of the opcodes that give none. -/
theorem gapsAreTheListedBytes : Obligations.GapsAreTheListedBytes := by
  refine ⟨by decide, by decide, fun i => ?_⟩
  rw [i.wf_eq, opcode_mem_gapBytes, Option.isSome_eq_false_iff, Option.isNone_iff_eq_none]

/-- The opcode fetch is a read at `PC` itself (R72). -/
theorem fetchByte_zero (s : State) : fetchByte 0#16 s = memRead s.cpu.pc s := by
  rw [fetchByte, BitVec.add_zero]

/-- With nothing pending and a gap at `PC`, the CPU step is its opcode fetch and `raise Fatal` (R121, R402). -/
theorem cpuStep_gap {s : State} (hiq : s.cpu.iq = []) (hgap : (memRead s.cpu.pc s).1 ∈ gapBytes) :
    cpuStep s = .next (raiseFatal (memRead s.cpu.pc s).1 (memRead s.cpu.pc s).2) := by
  rw [← fetchByte_zero] at hgap ⊢
  have hrow := (mem_gapBytes _).mp hgap
  rw [cpuStep_idle hiq, fetch_of_no_operand (illegal_row _ hrow), exec_gap hrow, assemble_opcode]

/-- The service of an interrupt takes 7 cycles (R120, R410). -/
theorem serviceInterrupt_cyc (k : IntKind) (s : State) : (serviceInterrupt k s).cpu.cyc = s.cpu.cyc + 7 := by
  simp [serviceInterrupt, enterVector_eq]

/-- A system step is its CPU step and three dots for each cycle it took (R356). -/
theorem systemStep_of_cpuStep {s t : State} (n : Nat) (hcpu : cpuStep s = .next t) (hcyc : t.cpu.cyc = s.cpu.cyc + n) :
    systemStep s = .next (runDots (3 * n) t) := by
  simp [systemStep, hcpu, dotsAfter, hcyc]

/-- Settles O38: a gap raises `Fatal`, which takes no cycle, so no dot follows. -/
theorem gapsStopTheMachine : Obligations.GapsStopTheMachine := by
  refine ⟨fun i s hgap => ?_, fun s hiq hgap => ?_, fun s k rest hiq => ?_, fun s => step_halted⟩
  · exact exec_gap ((opcode_mem_gapBytes i).mp hgap) s
  · have hstop := systemStep_of_cpuStep 0 (cpuStep_gap hiq hgap) (by simp)
    rwa [Nat.mul_zero, runDots, raiseFatal, State.mapCpu, memRead_cpu] at hstop
  · exact systemStep_of_cpuStep 7 (cpuStep_pending hiq) (serviceInterrupt_cyc k s)

end Sys2Proof.Machine
end

section
/-! SUPPORT. The operand forms (40_addressing_and_helpers.md R141 to R151): the bytes a fetch read for an operand, the
arithmetic of the resolvers in natural numbers, and the opcodes that have the forms of one use only. -/

namespace Sys2Proof.Machine

/-! The bytes of the operand. -/

/-- A fetch makes bus reads only, so it keeps the CPU (R72). -/
@[simp] theorem fetch_cpu (s : State) : (fetch s).2.cpu = s.cpu := by
  unfold fetch fetchByte
  dsimp only
  split <;> simp only [memRead_cpu]

/-- What a fetch reads from `PC` on is the opcode and the operand bytes of the instruction it answers (R72, R155). -/
theorem readsFrom_of_fetch {s u : State} {i : Instr} (h : fetch s = (i, u)) :
    readsFrom s.cpu.pc (i.operand.bytes.length + 1) s = (i.opcode :: i.operand.bytes, u) := by
  have hreads := fetchReadsTheEncoding s
  rwa [h, Instr.length, opcodeLength_opcode] at hreads

theorem cpu_of_fetch {s u : State} {i : Instr} (h : fetch s = (i, u)) : u.cpu = s.cpu := by
  simpa [h] using fetch_cpu s

/-- A one-byte operand is the byte at `PC + 1`. -/
theorem readsFrom_of_fetch_byte {s u : State} {i : Instr} {v : Byte} (h : fetch s = (i, u)) (hv : i.operand.bytes = [v]) :
    readsFrom s.cpu.pc 2 s = ([i.opcode, v], u) := by
  simpa [hv] using readsFrom_of_fetch h

/-- A two-byte operand is the bytes at `PC + 1` and `PC + 2`, the low one first. -/
theorem readsFrom_of_fetch_word {s u : State} {i : Instr} {v : Word} (h : fetch s = (i, u))
    (hv : i.operand.bytes = [loByte v, hiByte v]) :
    ∃ lo hi : Byte, v.toNat = hi.toNat * 256 + lo.toNat ∧ readsFrom s.cpu.pc 3 s = ([i.opcode, lo, hi], u) :=
  ⟨loByte v, hiByte v, by rw [← joinBytes_toNat, joinBytes_hi_lo], by simpa [hv] using readsFrom_of_fetch h⟩

/-! The opcodes of a format. The format and the mnemonic are functions of the opcode byte, so what is said of them is checked
once for each of the 256 bytes. -/

theorem of_format {f : Format} {P : Byte → Option Mnemonic → Prop}
    (hall : ∀ op, formatOf (assemble op 0x00#8 0x00#8).operand = f → P op (assemble op 0x00#8 0x00#8).mnemonic)
    {i : Instr} (h : formatOf i.operand = f) : P i.opcode i.mnemonic := by
  have hop := hall i.opcode ((assemble_format i _ _).trans h)
  rwa [assemble_mnemonic] at hop

/-- Only the eight branches have a relative operand (R151). -/
theorem mnemonic_of_rel {i : Instr} (h : formatOf i.operand = .rel) :
    i.mnemonic ∈ [some .bcc, some .bcs, some .beq, some .bne, some .bmi, some .bpl, some .bvc, some .bvs] :=
  of_format (P := fun _ m => m ∈ _) (by decide) h

/-- Only LDX and STX have a zero-page-Y form (R144). -/
theorem opcode_of_zpy {i : Instr} (h : formatOf i.operand = .zpy) :
    i.opcode = 0xB6#8 ∧ i.mnemonic = some .ldx ∨ i.opcode = 0x96#8 ∧ i.mnemonic = some .stx :=
  of_format (P := fun op m => op = 0xB6#8 ∧ m = some .ldx ∨ op = 0x96#8 ∧ m = some .stx) (by decide) h

/-- Only JMP has an indirect form (R148). -/
theorem opcode_of_ind {i : Instr} (h : formatOf i.operand = .ind) : i.opcode = 0x6C#8 ∧ i.mnemonic = some .jmp :=
  of_format (P := fun op m => op = 0x6C#8 ∧ m = some .jmp) (by decide) h

/-! The arithmetic of the resolvers. -/

@[simp] theorem zext16_toNat (z : Byte) : (zext16 z).toNat = z.toNat := by
  have hlt := z.isLt
  simp [zext16, Nat.mod_eq_of_lt (show z.toNat < 65536 by omega)]

theorem ofNat_toNat_zext16 (z : Byte) : BitVec.ofNat 16 z.toNat = zext16 z := by
  rw [← zext16_toNat, BitVec.ofNat_toNat, BitVec.setWidth_eq]

/-- Two addresses lie in different pages when their quotients by 256 differ (R6, R146). -/
theorem pagesDiffer_eq (u v : Word) : pagesDiffer u v = decide (u.toNat / 256 ≠ v.toNat / 256) := by
  simp [pagesDiffer, bne, beq_eq_decide, BitVec.toNat_eq, hiByte_toNat]

/-- The indexed sum wraps at 65536 (R146, R147, R150). -/
theorem indexed_addr_toNat (base : Word) (index : Byte) (s : State) :
    (indexed base index s).addr.toNat = (base.toNat + index.toNat) % 65536 := by
  simp [indexed]

/-- A crossing of an indexed form is a change of the high byte (R146, R147, R150). -/
theorem indexed_crossed (base : Word) (index : Byte) (s : State) :
    (indexed base index s).crossed = decide (base.toNat / 256 ≠ (indexed base index s).addr.toNat / 256) :=
  pagesDiffer_eq _ _

/-- Settles O7: the fetch of an instruction with one operand byte read it at `PC + 1`, and a relative operand is a
branch's. -/
theorem immediateAndRelativeForms : Obligations.ImmediateAndRelativeForms := by
  intro s u i v h
  refine ⟨fun hi => ⟨readsFrom_of_fetch_byte h (by rw [hi]; rfl), ?_, ?_, ?_⟩,
    fun hi => ⟨readsFrom_of_fetch_byte h (by rw [hi]; rfl), mnemonic_of_rel (by rw [hi]; rfl)⟩⟩
  · rw [hi]; rfl
  · rw [hi, ← cpu_of_fetch h]; rfl
  · rw [hi]; rfl

/-- Settles O8: the address is the sum of two bytes as a byte, and its extension to 16 bits does not change it. -/
theorem zeroPageForms : Obligations.ZeroPageForms := by
  intro s u i z h
  refine ⟨fun hi => ⟨readsFrom_of_fetch_byte h (by rw [hi]; rfl), ?_⟩,
    fun hi => ⟨readsFrom_of_fetch_byte h (by rw [hi]; rfl), ?_⟩,
    fun hi => ⟨readsFrom_of_fetch_byte h (by rw [hi]; rfl), ?_⟩⟩
  · rw [hi]
    exact ⟨zext16_toNat z, rfl, rfl⟩
  · rw [hi, ← cpu_of_fetch h]
    exact ⟨zext16_toNat _, rfl, rfl⟩
  · have hops := opcode_of_zpy (i := i) (by rw [hi]; rfl)
    rw [hi, ← cpu_of_fetch h]
    exact ⟨zext16_toNat _, rfl, rfl, hops⟩

/-- Settles O9: the plain form answers its base, and the indexed ones are `indexed` with `X` or `Y`. -/
theorem absoluteForms : Obligations.AbsoluteForms := by
  intro s u i base h
  refine ⟨fun hi => ⟨readsFrom_of_fetch_word h (by rw [hi]; rfl), ?_⟩,
    fun hi => ⟨readsFrom_of_fetch_word h (by rw [hi]; rfl), ?_⟩,
    fun hi => ⟨readsFrom_of_fetch_word h (by rw [hi]; rfl), ?_⟩⟩
  · rw [hi]
    exact ⟨rfl, rfl, rfl⟩
  · rw [hi, ← cpu_of_fetch h]
    exact ⟨indexed_addr_toNat .., indexed_crossed .., rfl⟩
  · rw [hi, ← cpu_of_fetch h]
    exact ⟨indexed_addr_toNat .., indexed_crossed .., rfl⟩

/-- The bytes of a pointer in page zero, its two addresses as numbers (R149, R150). -/
theorem zpPointer_ofNat (q : Byte) (s : State) :
    zpPointer q s =
      let lo := memRead (BitVec.ofNat 16 q.toNat) s
      let hi := memRead (BitVec.ofNat 16 ((q.toNat + 1) % 256)) lo.2
      (joinBytes hi.1 lo.1, hi.2) := by
  have hnext : (q.toNat + 1) % 256 = (q + 1#8).toNat := by simp
  simp only [hnext, ofNat_toNat_zext16]
  rfl

/-- Settles O10: each pointer is read low byte first, and its two bytes joined are their value as a number. -/
theorem pointerForms : Obligations.PointerForms := by
  intro s u i h
  have hcpu := cpu_of_fetch h
  refine ⟨fun p hi => ?_, fun z hi => ?_, fun z hi => ?_⟩
  · obtain ⟨hop, hm⟩ := opcode_of_ind (i := i) (by rw [hi]; rfl)
    refine ⟨readsFrom_of_fetch_word h (by rw [hi]; rfl), hop, hm, ?_⟩
    rw [hi]
    exact ⟨joinBytes_toNat _ _, rfl, rfl⟩
  · refine ⟨readsFrom_of_fetch_byte h (by rw [hi]; rfl), ?_⟩
    have hq : (z.toNat + s.cpu.x.toNat) % 256 = (z + s.cpu.x).toNat := (BitVec.toNat_add ..).symm
    simp only [hi, resolve, eaIzx, hcpu, zpPointer_ofNat, hq]
    exact ⟨joinBytes_toNat _ _, trivial, trivial⟩
  · refine ⟨readsFrom_of_fetch_byte h (by rw [hi]; rfl), ?_⟩
    simp only [hi, resolve, eaIzy, hcpu, zpPointer_ofNat, ← joinBytes_toNat]
    exact ⟨indexed_addr_toNat .., indexed_crossed .., rfl⟩

end Sys2Proof.Machine
end

section
/-! SUPPORT. The stack (40_addressing_and_helpers.md R162, R163): a push and a pull in the spec's own terms, and what an array
keeps at the addresses a write does not name. -/

namespace Sys2Proof.Machine

/-- A store of one byte keeps every byte at another address (R342). -/
theorem MemKeptBut.of_write {s t : State} {a : Word} {v : Byte} (h : t.mem = s.mem.write a.toNat v) :
    MemKeptBut [a] s t := by
  intro b hb
  have hne : a.toNat ≠ b := fun e => hb (by simp [e])
  rw [h, Memory.read_write_ne _ hne]

/-- `SP` incremented modulo 256 (R163). -/
theorem ofNat_sp_add_one (sp : Byte) : BitVec.ofNat 8 (sp.toNat + 1) = sp + 1#8 := by
  simp [BitVec.toNat_eq]

/-- `SP` decremented modulo 256 (R162). -/
theorem ofNat_sp_sub_one (sp : Byte) : BitVec.ofNat 8 (sp.toNat + 255) = sp - 1#8 := by
  simp [BitVec.toNat_eq, BitVec.toNat_sub, Nat.add_comm]

/-- Settles O19: the stack lies in page one, which has no live address, so both are plain accesses of the array. -/
theorem pushAndPull : Obligations.PushAndPull := by
  intro v s
  dsimp only
  rw [push_eq, pull_eq, ofNat_sp_add_one, ofNat_sp_sub_one]
  exact ⟨Memory.read_write_same _ _ _, .of_write rfl, ⟨rfl, rfl, rfl⟩, rfl, rfl, rfl⟩

end Sys2Proof.Machine
end

section
/-! SUPPORT. The step of a running machine (40_addressing_and_helpers.md R167, R356): the service of what is pending after the
host's events, or the instruction the bytes at `PC` decode to; then the dots. -/

namespace Sys2Proof.Machine

/-- A running machine takes the host's events and then makes the system step (R357). -/
theorem step_of_running {s : State} (h : s.cpu.halt = false) : step s = systemStep (deliverInbox s) := by
  simp [step, machineStep, h]

/-- Settles O40: the CPU step with an entry pending is its service, which takes 7 cycles. -/
theorem interruptBeforeInstruction : Obligations.InterruptBeforeInstruction := by
  intro s k rest hrun hiq
  rw [step_of_running hrun]
  exact systemStep_of_cpuStep 7 (cpuStep_pending hiq) (serviceInterrupt_cyc k _)

/-- An instruction is as long as its encoding (R110, R111). -/
theorem encode_length (i : Instr) : (encode i).length = i.length := (opcodeLength_opcode i).symm

/-- If the bytes read from `PC` on are an instruction's encoding, the fetch answers that instruction and leaves the state
those reads left (R72, R110). -/
theorem fetch_of_readsFrom {s v : State} {i : Instr} (h : readsFrom s.cpu.pc (encode i).length s = (encode i, v)) :
    fetch s = (i, v) := by
  have hop : (fetch s).1.opcode = i.opcode := by
    rw [fetch_opcode, fetchByte_zero]
    exact (List.cons.inj (Prod.mk.inj h).1).1
  have hfetch := fetchReadsTheEncoding s
  rw [Instr.length, hop, ← Instr.length, ← encode_length, h] at hfetch
  obtain ⟨hbytes, hstate⟩ := Prod.mk.inj hfetch
  have hround := decodeOfEncode i []
  rw [hbytes, decodeOfEncode] at hround
  exact Prod.ext (Prod.mk.inj (Except.ok.inj hround)).1 hstate.symm

/-- Settles O44: bytes that decode to an instruction are its encoding, so the fetch answers that instruction. -/
theorem stepRunsTheDecodedInstruction : Obligations.StepRunsTheDecodedInstruction := by
  rintro s u v i bytes hrun rfl hiq hreads hdecode
  obtain rfl : bytes = encode i := by simpa using encodeOfDecode bytes [] i hdecode
  obtain ⟨t, ht, -⟩ := exec_next_path i v
  have hcpu : cpuStep (deliverInbox s) = .next t := by rw [cpuStep_idle hiq, fetch_of_readsFrom hreads, ht]
  refine ⟨t, ht, ?_⟩
  rw [step_of_running hrun, systemStep, hcpu]
  rfl

end Sys2Proof.Machine
end

section
/-! SUPPORT. How every legal instruction ends (40_addressing_and_helpers.md R154, R167, R168): the latches kept, and `CYC`
moved by the base cycles of its opcode and at most a page-cross or branch penalty. Proved once per shape. -/

namespace Sys2Proof.Machine

/-- `CYC`, `IQ` and the fatal latch with its report are as they were. -/
def TicksKept (c c' : Cpu) : Prop := c'.cyc = c.cyc ∧ LatchesKept c c'

theorem TicksKept.of_same {c c' : Cpu} (hcyc : c'.cyc = c.cyc) (hiq : c'.iq = c.iq) (hhalt : c'.halt = c.halt)
    (hop : c'.haltOpcode = c.haltOpcode) (hat : c'.haltCyc = c.haltCyc) : TicksKept c c' :=
  ⟨hcyc, hiq, hhalt, hop, hat⟩

theorem TicksKept.trans {c c' c'' : Cpu} (h : TicksKept c c') (h' : TicksKept c' c'') : TicksKept c c'' := by
  obtain ⟨hcyc, hiq, hhalt, hop, hat⟩ := h
  obtain ⟨hcyc', hiq', hhalt', hop', hat'⟩ := h'
  exact ⟨hcyc'.trans hcyc, hiq'.trans hiq, hhalt'.trans hhalt, hop'.trans hop, hat'.trans hat⟩

/-- The instruction `op` ended: the latches are as they were, and `CYC` moved by its base cycles and at most `most` more. -/
def EndsWithin (op : Byte) (most : Nat) (c c' : Cpu) : Prop :=
  LatchesKept c c' ∧ ∃ extra ≤ most, c'.cyc = c.cyc + (baseCycles op + extra)

/-- What a shape must say of the functions it carries, for its instructions to touch neither the latches nor `CYC` before
they end. A gap stops the machine. -/
def Effect.Steady : Effect → Prop
  | .compute f | .pull f => ∀ m c, TicksKept c (f m c)
  | .modify f | .shift f => ∀ m c, TicksKept c (f m c).2
  | .inherent f => ∀ c, TicksKept c (f c)
  | .store _ | .branch _ | .push _ | .jump | .call | .ret | .brk | .rti => True
  | .fatal => False

/-- The most a shape adds to the base cycles of `op` (R154, R166). -/
def Effect.mostExtra (op : Byte) : Effect → Nat
  | .branch _ => 2
  | _ => pageExtra op true

theorem pageExtra_le (op : Byte) (crossed : Bool) : pageExtra op crossed ≤ pageExtra op true := by
  cases crossed with
  | false => exact Nat.zero_le _
  | true => exact le_rfl

theorem branchExtra_le (taken : Bool) (next target : Word) : branchExtra taken next target ≤ 2 := by
  unfold branchExtra
  split_ifs <;> decide

section Ends

variable {op : Byte} {c : Cpu} {s t : State}

theorem EndsWithin.retire (crossed : Bool) (h : TicksKept c t.cpu) :
    EndsWithin op (pageExtra op true) c (retire op crossed t).cpu :=
  ⟨h.2, _, pageExtra_le op crossed, by rw [retire_cpu_cyc, h.1]⟩

theorem EndsWithin.retireAt (most : Nat) (h : TicksKept c t.cpu) : EndsWithin op most c (retireAt op t).cpu :=
  ⟨h.2, 0, Nat.zero_le _, by rw [retireAt_cpu, h.1]; rfl⟩

theorem EndsWithin.modifyOperand {f : Byte → Cpu → Byte × Cpu} (hf : ∀ m c, TicksKept c (f m c).2) (o : Operand) :
    EndsWithin op (pageExtra op true) s.cpu (modifyOperand op (resolve o s) f).cpu := by
  refine .retire _ ?_
  rw [memWrite_cpu, State.mapCpu_cpu, memRead_cpu, resolve_st_cpu]
  exact hf _ _

/-- An instruction whose functions touch neither the latches nor `CYC` keeps the latches and takes its base cycles and the
penalty of its shape. -/
theorem Effect.Steady.run {e : Effect} (he : e.Steady) (i : Instr) (s : State) :
    EndsWithin i.opcode (e.mostExtra i.opcode) s.cpu (e.run i s).cpu := by
  cases e with
  | compute f =>
    refine .retire _ ?_
    rw [State.mapCpu_cpu, operandValue_cpu]
    exact he _ _
  | store reg =>
    refine .retire _ ?_
    rw [memWrite_cpu, resolve_st_cpu]
    exact .of_same rfl rfl rfl rfl rfl
  | modify f => exact .modifyOperand he _
  | shift f =>
    simp only [Effect.run]
    split
    · exact .retire _ ((he _ _).trans (.of_same rfl rfl rfl rfl rfl))
    · exact .modifyOperand he _
  | inherent f => exact .retire _ (he _)
  | branch cond => exact ⟨⟨rfl, rfl, rfl, rfl⟩, _, branchExtra_le _ _ _, Nat.add_assoc _ _ _⟩
  | push reg =>
    refine .retire _ ?_
    rw [push_eq]
    exact .of_same rfl rfl rfl rfl rfl
  | pull f =>
    refine .retire _ ?_
    rw [pull_eq]
    exact .trans (.of_same rfl rfl rfl rfl rfl) (he _ _)
  | jump =>
    refine .retireAt _ ?_
    rw [State.jump_cpu, resolve_st_cpu]
    exact .of_same rfl rfl rfl rfl rfl
  | call =>
    refine .retireAt _ ?_
    rw [pushWord_eq]
    exact .of_same rfl rfl rfl rfl rfl
  | ret =>
    refine .retireAt _ ?_
    rw [pullWord_eq]
    exact .of_same rfl rfl rfl rfl rfl
  | brk =>
    refine .retireAt _ ?_
    rw [show config.vecIrq = vectorOf .irq from rfl, enterVector_eq]
    exact .of_same rfl rfl rfl rfl rfl
  | rti =>
    refine .retireAt _ ?_
    rw [returnFromInterrupt_eq]
    exact .of_same rfl rfl rfl rfl rfl
  | fatal => exact he.elim

end Ends

/-- No mnemonic's own function touches the latches or `CYC`. -/
theorem effectOf_steady (m : Mnemonic) : (effectOf (some m)).Steady := by
  cases m with
  | lda | ldx | ldy | adc | sbc | and | ora | eor | cmp | cpx | cpy | bit | pla | plp =>
    exact fun _ _ => .of_same rfl rfl rfl rfl rfl
  | inc | dec | asl | lsr | rol | ror => exact fun _ _ => .of_same rfl rfl rfl rfl rfl
  | tax | tay | txa | tya | tsx | txs | inx | iny | dex | dey | nop => exact fun _ => .of_same rfl rfl rfl rfl rfl
  | clc | sec | cli | sei | cld | sed | clv => exact fun _ => .of_same rfl rfl rfl rfl rfl
  | sta | stx | sty | pha | php | bcc | bcs | beq | bne | bmi | bpl | bvc | bvs | jmp | jsr | rts | brk | rti => trivial

/-- How a legal instruction ends. -/
theorem exec_endsWithin {i : Instr} {s t : State} {m : Mnemonic} (hm : i.mnemonic = some m) (h : exec i s = .next t) :
    EndsWithin i.opcode ((effectOf (some m)).mostExtra i.opcode) s.cpu t.cpu := by
  have hrun := (effectOf_steady m).run i s
  rwa [← hm, ← exec_eq_next h, hm] at hrun

/-- What a legal instruction leaves of the CPU: all but the registers and flags of its mnemonic (R20 to R35). -/
theorem exec_cpuKeptBut {i : Instr} {s t : State} {m : Mnemonic} (hm : i.mnemonic = some m) (h : exec i s = .next t) :
    CpuKeptBut (regsWritten (some m)) (flagsWritten (some m)) s.cpu t.cpu := by
  obtain ⟨hregs, hflags⟩ := exec_writesOnly h
  rw [hm] at hregs hflags
  exact ⟨hregs, hflags, (exec_endsWithin hm h).1⟩

/-- The base cycles of a legal opcode are at least 2, and no more than 7 with the penalty (R118, R119, R168). -/
theorem cycles_bounded : ∀ op : Byte, ∀ m ∈ (assemble op 0x00#8 0x00#8).mnemonic,
    2 ≤ baseCycles op ∧ baseCycles op + (effectOf (some m)).mostExtra op ≤ 7 := by decide

/-- Settles O46: the base cycles and the penalty of every legal opcode are within the bounds of the tables. -/
theorem cyclesBetweenTwoAndSeven : Obligations.CyclesBetweenTwoAndSeven := by
  refine ⟨fun i s t hwf h => ?_, fun k s => ⟨serviceInterrupt_cyc k s, ?_⟩⟩
  · obtain ⟨m, hm⟩ := Option.isSome_iff_exists.mp (i.wf_eq ▸ hwf)
    obtain ⟨⟨-, hhalt, -, -⟩, extra, hextra, hcyc⟩ := exec_endsWithin hm h
    obtain ⟨htwo, hseven⟩ := cycles_bounded i.opcode m ((assemble_mnemonic i _ _).trans hm)
    exact ⟨by omega, by omega, hhalt⟩
  · simp [serviceInterrupt, enterVector_eq]

end Sys2Proof.Machine
end

section
/-! SUPPORT. The mnemonics that compute from their operand byte (41_load_store_transfer.md R180 to R182; 42_arithmetic_logic.md):
what every form of one leaves, said once for all of them. -/

namespace Sys2Proof.Machine

/-- What a form `i` of the mnemonic `m` that computes `f` from its operand byte leaves of `s`: the registers and `P` as `f`
makes them, everything else of the CPU kept, `MEM` kept and the devices as the operand's bus reads left them, and `PC` and
`CYC` moved on as the encoding line `e` says (R140, R154, R167). -/
structure Computed (m : Mnemonic) (f : Byte → Cpu → Cpu) (e : Encoding) (i : Instr) (s t : State) : Prop where
  regs : ∀ r, t.cpu.reg r = (f (operandValue i.operand s).1 s.cpu).reg r
  status : t.cpu.p = (f (operandValue i.operand s).1 s.cpu).p
  kept : CpuKeptBut (regsWritten (some m)) (flagsWritten (some m)) s.cpu t.cpu
  reads : AfterReads s (operandValue i.operand s).2 t
  ends : FallsThrough e.bytes (e.cyclesWhen (resolve i.operand s).crossed) s.cpu t.cpu

@[simp] theorem resolve_st_inbox (o : Operand) (s : State) : (resolve o s).st.inbox = s.inbox := by
  cases o <;> simp [resolve, eaImm, eaZp, eaZpx, eaZpy, eaAbs, eaAbx, eaAby, eaInd, eaIzx, eaIzy, indexed, zpPointer_eq]

@[simp] theorem operandValue_inbox (o : Operand) (s : State) : (operandValue o s).2.inbox = s.inbox := by
  cases o <;> simp [operandValue]

/-- Every form of a mnemonic that computes from its operand byte completes, as a line of its rule says. -/
theorem exec_computed {m : Mnemonic} {f : Byte → Cpu → Cpu} (hf : effectOf (some m) = .compute f)
    (hpc : ∀ v c, (f v c).pc = c.pc) {i : Instr} (hm : i.mnemonic = some m) (s : State) :
    ∃ e ∈ encodingsOf m, EncodedAs i e ∧ ∃ t, exec i s = .next t ∧ Computed m f e i s t := by
  have hexec := exec_eq_run i s
  rw [hm, hf] at hexec
  refine ⟨_, tableEntry_listed i.opcode m ((assemble_mnemonic i _ _).trans hm), encodedAs_tableEntry i, _, hexec, ?_⟩
  have hcpu := operandValue_cpu i.operand s
  have hcyc : ∀ v c, (f v c).cyc = c.cyc := fun v c => (hf ▸ effectOf_steady m : (Effect.compute f).Steady) v c |>.1
  refine ⟨fun r => ?_, ?_, exec_cpuKeptBut hm hexec, ⟨fun a => ?_, rfl, rfl, operandValue_inbox _ _⟩, ?_, ?_⟩
  · rw [← hcpu]; cases r <;> rfl
  · rw [← hcpu]; rfl
  · exact congrArg (Memory.read · a) (operandValue_mem _ _)
  · simp only [Effect.run, retire_cpu_pc, State.mapCpu_cpu, hpc, hcpu]
    rfl
  · simp only [Effect.run, retire_cpu_cyc, State.mapCpu_cpu, hcyc, hcpu]
    rfl

/-- Z and N are read from `P` alone. -/
theorem ResultFlags.of_p {v : Byte} {c c' : Cpu} (h : ResultFlags v c) (hp : c'.p = c.p) : ResultFlags v c' := by
  unfold ResultFlags Cpu.flagZ Cpu.flagN at *
  rwa [hp]

/-! The adder (R164). -/

theorem Cpu.adcCore_flagC (b vb : Byte) (c : Cpu) :
    (c.adcCore b vb).flagC = decide (255 < nineBitSum c.a b c.flagC) := by
  simp only [Cpu.adcCore, Cpu.flagC, Cpu.setZN_p, Cpu.setV_p, Cpu.setC_p, putFlag_bit _ _ _ 0 (by decide)]
  simp [maskC, maskV, maskZ, maskN]

theorem Cpu.adcCore_flagV (b vb : Byte) (c : Cpu) :
    (c.adcCore b vb).flagV = overflows c.a vb (BitVec.ofNat 8 (nineBitSum c.a b c.flagC)) := by
  simp only [Cpu.adcCore, Cpu.flagV, Cpu.setZN_p, Cpu.setV_p, Cpu.setC_p, putFlag_bit _ _ _ 6 (by decide)]
  simp [maskV, maskZ, maskN]

theorem Cpu.adcCore_result (b vb : Byte) (c : Cpu) :
    ResultFlags (BitVec.ofNat 8 (nineBitSum c.a b c.flagC)) (c.adcCore b vb) :=
  Cpu.setZN_result _ _

theorem overflows_eq (u v r : Byte) : overflows u v r = decide (((u ^^^ r) &&& (v ^^^ r) &&& 0x80#8) ≠ 0x00#8) := by
  simp [overflows, bne, beq_eq_decide]

/-- What a mnemonic leaves that adds the byte `b v` it makes of its operand byte `v` (R164). -/
theorem Computed.adder {m : Mnemonic} {b : Byte → Byte} {e : Encoding} {i : Instr} {s t : State}
    (h : Computed m (fun v c => c.adcCore (b v) (b v)) e i s t) {sum : Nat}
    (hsum : nineBitSum s.cpu.a (b (operandValue i.operand s).1) s.cpu.flagC = sum) :
    t.cpu.a = BitVec.ofNat 8 sum ∧ t.cpu.flagC = decide (255 < sum) ∧
      t.cpu.flagV = overflows s.cpu.a (b (operandValue i.operand s).1) (BitVec.ofNat 8 sum) ∧
      ResultFlags (BitVec.ofNat 8 sum) t.cpu := by
  subst hsum
  exact ⟨h.regs .a, (congrArg (·.getLsbD 0) h.status).trans (Cpu.adcCore_flagC _ _ _),
    (congrArg (·.getLsbD 6) h.status).trans (Cpu.adcCore_flagV _ _ _), .of_p (Cpu.adcCore_result _ _ _) h.status⟩

/-! Adding the complement is subtracting (R165, R201). -/

theorem complement_toNat (m : Byte) : (m ^^^ 0xFF#8).toNat = 255 - m.toNat := by
  rw [show (0xFF#8 : Byte) = BitVec.allOnes 8 from rfl, BitVec.xor_allOnes, BitVec.toNat_not]

theorem complement_toInt (m : Byte) : (m ^^^ 0xFF#8).toInt = -m.toInt - 1 := by
  have hlt := m.isLt
  rw [BitVec.toInt_eq_toNat_cond, BitVec.toInt_eq_toNat_cond, complement_toNat]
  split_ifs <;> omega

/-- The 9-bit sum with the complement is the difference with borrow, plus 256. -/
theorem nineBitSum_complement (u m : Byte) (carry : Bool) :
    (nineBitSum u (m ^^^ 0xFF#8) carry : Int) = u.toNat - m.toNat - (1 - carry.toNat : Nat) + 256 := by
  have hlt := m.isLt
  have hc := carry.toNat_le
  rw [nineBitSum, complement_toNat]
  omega

/-- The low byte of that sum is the difference modulo 256. -/
theorem toNat_nineBitSum_complement (u m : Byte) (carry : Bool) :
    ((BitVec.ofNat 8 (nineBitSum u (m ^^^ 0xFF#8) carry)).toNat : Int) =
      (u.toNat - m.toNat - (1 - carry.toNat : Nat)) % 256 := by
  rw [BitVec.toNat_ofNat, Int.natCast_mod, nineBitSum_complement]
  omega

/-- Its carry is the absence of a borrow. -/
theorem carry_nineBitSum_complement (u m : Byte) (carry : Bool) :
    255 < nineBitSum u (m ^^^ 0xFF#8) carry ↔ m.toNat + (1 - carry.toNat) ≤ u.toNat := by
  have hsum := nineBitSum_complement u m carry
  omega

theorem and_0x80_ne_zero (x : Byte) : ((x &&& 0x80#8) != 0x00#8) = x.msb := by
  revert x
  decide

/-- The sign rule (R31, R164): V is set exactly when the signed sum with carry is out of range. -/
theorem overflows_nineBitSum (u b : Byte) (carry : Bool) :
    overflows u b (BitVec.ofNat 8 (nineBitSum u b carry)) =
      decide (u.toInt + b.toInt + carry.toNat < -128 ∨ 127 < u.toInt + b.toInt + carry.toNat) := by
  have hu := u.isLt
  have hb := b.isLt
  have hc := carry.toNat_le
  have hsum : overflows u b (BitVec.ofNat 8 (nineBitSum u b carry)) =
      ((u.msb ^^ decide (128 ≤ nineBitSum u b carry % 256)) && (b.msb ^^ decide (128 ≤ nineBitSum u b carry % 256))) := by
    rw [overflows, and_0x80_ne_zero, BitVec.msb_and, BitVec.msb_xor, BitVec.msb_xor]
    simp [BitVec.msb_eq_decide]
  rw [hsum, nineBitSum, BitVec.toInt_eq_toNat_cond, BitVec.toInt_eq_toNat_cond, BitVec.msb_eq_decide, BitVec.msb_eq_decide,
    Bool.eq_iff_iff]
  simp only [Bool.and_eq_true, bne_iff_ne, ne_eq, decide_eq_decide, decide_eq_true_eq]
  split_ifs <;> omega

/-- The sign rule on the complement: V is set exactly when the signed difference with borrow is out of range. -/
theorem overflows_nineBitSum_complement (u m : Byte) (carry : Bool) :
    overflows u (m ^^^ 0xFF#8) (BitVec.ofNat 8 (nineBitSum u (m ^^^ 0xFF#8) carry)) =
      decide (u.toInt - m.toInt - (1 - carry.toNat : Nat) < -128 ∨
        127 < u.toInt - m.toInt - (1 - carry.toNat : Nat)) := by
  have hc := carry.toNat_le
  have hdiff : u.toInt + (-m.toInt - 1) + carry.toNat = u.toInt - m.toInt - (1 - carry.toNat : Nat) := by omega
  rw [overflows_nineBitSum, complement_toInt, hdiff]

/-- Settles O23: both are the adder on the operand byte, complemented for SBC, and adding the complement with the carry is
subtracting with the borrow, unsigned and signed. -/
theorem addAndSubtractWithCarry : Obligations.AddAndSubtractWithCarry := by
  intro m hm i s hi
  simp only [List.mem_cons, List.not_mem_nil, or_false] at hm
  obtain rfl | rfl := hm
  · obtain ⟨e, he, henc, t, ht, h⟩ := exec_computed (f := Cpu.adc) rfl (fun _ _ => rfl) hi s
    obtain ⟨ha, hC, hV, hZN⟩ := h.adder (b := id) rfl
    exact ⟨e, he, henc, t, ht, ha, hC, hV.trans (overflows_eq _ _ _), hZN, h.kept, h.reads, h.ends, fun h => nomatch h⟩
  · obtain ⟨e, he, henc, t, ht, h⟩ := exec_computed (f := Cpu.sbc) rfl (fun _ _ => rfl) hi s
    obtain ⟨ha, hC, hV, hZN⟩ := h.adder (b := (· ^^^ 0xFF#8)) rfl
    exact ⟨e, he, henc, t, ht, ha, hC, hV.trans (overflows_eq _ _ _), hZN, h.kept, h.reads, h.ends, fun _ =>
      ⟨ha ▸ toNat_nineBitSum_complement _ _ _, hC.trans (decide_eq_decide.mpr (carry_nineBitSum_complement _ _ _)),
        hV.trans (overflows_nineBitSum_complement _ _ _)⟩⟩

/-! The compare (R165). -/

/-- The compare is the subtraction without borrow, kept only in the flags. -/
theorem Cpu.cmpCore_eq (r m : Byte) (c : Cpu) :
    c.cmpCore r m = (c.setC (decide (m.toNat ≤ r.toNat))).setZN (r - m) := by
  have hcarry : 255 < nineBitSum r (m ^^^ 0xFF#8) true ↔ m.toNat ≤ r.toNat := carry_nineBitSum_complement r m true
  have hdiff : BitVec.ofNat 8 (nineBitSum r (m ^^^ 0xFF#8) true) = r - m := by
    have hm := m.isLt
    apply BitVec.eq_of_toNat_eq
    rw [BitVec.toNat_ofNat, BitVec.toNat_sub, nineBitSum, complement_toNat, Bool.toNat_true]
    omega
  unfold Cpu.cmpCore
  dsimp only
  rw [hdiff, decide_eq_decide.mpr hcarry]

theorem Cpu.cmpCore_flagC (r m : Byte) (c : Cpu) : (c.cmpCore r m).flagC = decide (m.toNat ≤ r.toNat) := by
  rw [Cpu.cmpCore_eq]
  simp only [Cpu.flagC, Cpu.setZN_p, Cpu.setC_p, putFlag_bit _ _ _ 0 (by decide)]
  simp [maskC, maskZ, maskN]

theorem Cpu.cmpCore_result (r m : Byte) (c : Cpu) : ResultFlags (r - m) (c.cmpCore r m) := by
  rw [Cpu.cmpCore_eq]
  exact Cpu.setZN_result _ _

/-- Settles O25: each of the three compares its own register with the operand byte and writes C, Z and N. -/
theorem comparesSetCarryZeroNegative : Obligations.ComparesSetCarryZeroNegative := by
  intro m r hm i s hi
  obtain ⟨hf, hregs, hflags⟩ : effectOf (some m) = .compute (fun v c => c.cmpCore (c.reg r) v) ∧
      regsWritten (some m) = [] ∧ flagsWritten (some m) = 0x83#8 := by
    simp only [List.mem_cons, List.not_mem_nil, or_false, Prod.mk.injEq] at hm
    obtain ⟨rfl, rfl⟩ | ⟨rfl, rfl⟩ | ⟨rfl, rfl⟩ := hm <;> exact ⟨rfl, rfl, rfl⟩
  obtain ⟨e, he, henc, t, ht, h⟩ := exec_computed hf (fun _ _ => rfl) hi s
  obtain ⟨hZ, hN⟩ := ResultFlags.of_p (Cpu.cmpCore_result _ _ _) h.status
  have hkept := h.kept
  rw [hregs, hflags] at hkept
  exact ⟨e, he, henc, t, ht, (congrArg (·.getLsbD 0) h.status).trans (Cpu.cmpCore_flagC _ _ _),
    hZ.trans (decide_eq_decide.mpr sub_eq_zero), hN, hkept, h.reads, h.ends⟩

end Sys2Proof.Machine
end

section
/-! SUPPORT. The branches (40_addressing_and_helpers.md R166; 44_branch_jump.md R240 to R247). -/

namespace Sys2Proof.Machine

/-- Extending the sign by hand is the sign extension (R6). -/
theorem sext16_eq : ∀ v : Byte, sext16 v = v.signExtend 16 := by decide

/-- A shape is that of a branch. -/
def Effect.isBranch : Effect → Bool
  | .branch _ => true
  | _ => false

/-- The opcodes of the branches have a relative operand and 2 base cycles (R111, R118). -/
theorem branch_opcode : ∀ op : Byte, ∀ m ∈ (assemble op 0x00#8 0x00#8).mnemonic, (effectOf (some m)).isBranch = true →
    formatOf (assemble op 0x00#8 0x00#8).operand = .rel ∧ baseCycles op = 2 := by decide

theorem eq_rel_of_format {o : Operand} (h : formatOf o = .rel) : ∃ off, o = .rel off := by
  cases o with
  | rel off => exact ⟨off, rfl⟩
  | _ => cases h

/-- What a branch with the offset `off` leaves of `s`: `PC` at the target or after the instruction, the cycles of R166, and
everything else as it was. -/
structure Branched (taken : Bool) (off : Byte) (s t : State) : Prop where
  notTaken : taken = false → GoesTo (s.cpu.pc + 2#16) 2 s.cpu t.cpu
  taken : taken = true →
    let target := s.cpu.pc + 2#16 + off.signExtend 16
    GoesTo target (if target.toNat / 256 ≠ (s.cpu.pc + 2#16).toNat / 256 then 4 else 3) s.cpu t.cpu
  kept : CpuKeptBut [] 0x00#8 s.cpu t.cpu
  outside : OutsideKept s t

/-- The shared routine of the branches does what R166 says. -/
theorem branch_branched {op : Byte} (hop : baseCycles op = 2) (taken : Bool) (off : Byte) (s : State) :
    Branched taken off s (branch op taken off s) := by
  have hpc : (branch op taken off s).cpu.pc =
      if taken then s.cpu.pc + 2#16 + off.signExtend 16 else s.cpu.pc + 2#16 := by rw [← sext16_eq]; rfl
  have hcyc : (branch op taken off s).cpu.cyc =
      s.cpu.cyc + baseCycles op + branchExtra taken (s.cpu.pc + 2#16) (s.cpu.pc + 2#16 + off.signExtend 16) := by
    rw [← sext16_eq]; rfl
  rw [hop] at hcyc
  refine ⟨?_, ?_, ⟨fun r _ => by cases r <;> rfl, rfl, rfl, rfl, rfl, rfl⟩, fun _ => rfl, rfl, rfl, rfl⟩
  · rintro rfl
    exact ⟨hpc, hcyc⟩
  · rintro rfl
    refine ⟨hpc, ?_⟩
    rw [hcyc, branchExtra, pagesDiffer_eq]
    simp only [if_true, decide_eq_true_eq]
    split_ifs <;> rfl

/-- Every branch completes, as the line of its rule says. -/
theorem exec_branched {m : Mnemonic} {cond : Cpu → Bool} (hf : effectOf (some m) = .branch cond) {i : Instr}
    (hi : i.mnemonic = some m) (s : State) :
    ∃ e ∈ encodingsOf m, EncodedAs i e ∧ ∃ off : Byte, i.operand = .rel off ∧ ∃ t, exec i s = .next t ∧
      Branched (cond s.cpu) off s t := by
  have hrow := (assemble_mnemonic i 0x00#8 0x00#8).trans hi
  obtain ⟨hformat, hbase⟩ := branch_opcode i.opcode m hrow (by rw [hf]; rfl)
  obtain ⟨off, hoff⟩ := eq_rel_of_format ((assemble_format i _ _).symm.trans hformat)
  have hexec := exec_eq_run i s
  rw [hi, hf, Effect.run, hoff] at hexec
  exact ⟨_, tableEntry_listed i.opcode m hrow, encodedAs_tableEntry i, off, hoff, _, hexec, branch_branched hbase _ off s⟩

/-- Settles O30: the eight branches differ only in the flag they test and the value they want of it. -/
theorem branchesOnOneFlag : Obligations.BranchesOnOneFlag := by
  intro m n wanted hm i s hi
  obtain ⟨cond, hf, hcond⟩ : ∃ cond, effectOf (some m) = .branch cond ∧ ∀ c : Cpu, cond c = (c.p.getLsbD n == wanted) := by
    simp only [List.mem_cons, List.not_mem_nil, or_false, Prod.mk.injEq] at hm
    obtain ⟨rfl, rfl, rfl⟩ | ⟨rfl, rfl, rfl⟩ | ⟨rfl, rfl, rfl⟩ | ⟨rfl, rfl, rfl⟩ | ⟨rfl, rfl, rfl⟩ | ⟨rfl, rfl, rfl⟩ |
      ⟨rfl, rfl, rfl⟩ | ⟨rfl, rfl, rfl⟩ := hm
    · exact ⟨_, rfl, fun _ => (beq_false _).symm⟩
    · exact ⟨_, rfl, fun _ => (beq_true _).symm⟩
    · exact ⟨_, rfl, fun _ => (beq_true _).symm⟩
    · exact ⟨_, rfl, fun _ => (beq_false _).symm⟩
    · exact ⟨_, rfl, fun _ => (beq_true _).symm⟩
    · exact ⟨_, rfl, fun _ => (beq_false _).symm⟩
    · exact ⟨_, rfl, fun _ => (beq_false _).symm⟩
    · exact ⟨_, rfl, fun _ => (beq_true _).symm⟩
  obtain ⟨e, he, henc, off, hoff, t, ht, h⟩ := exec_branched hf hi s
  rw [hcond] at h
  exact ⟨e, he, henc, off, hoff, t, ht, fun hne => h.notTaken (beq_eq_false_iff_ne.mpr hne),
    fun heq => h.taken (beq_iff_eq.mpr heq), h.kept, h.outside⟩

end Sys2Proof.Machine
end

section
/-! SUPPORT. Loads, stores and transfers (41_load_store_transfer.md R180 to R191). The loads are instances of `exec_computed`;
the stores and the instructions on registers alone get a lemma of that kind here, which says once what every form of one
leaves. -/

namespace Sys2Proof.Machine

/-! The loads. -/

/-- What `r <- v; setZN(v)` leaves in `r` and in Z and N, whichever register `r` is (R180 to R182, R186 to R190). -/
structure LoadsResult (r : Reg) (v : Byte) (c' : Cpu) : Prop where
  reg : c'.reg r = v
  result : ResultFlags v c'

theorem Cpu.lda_loads (v : Byte) (c : Cpu) : LoadsResult .a v (c.lda v) := ⟨rfl, Cpu.setZN_result _ _⟩

theorem Cpu.ldx_loads (v : Byte) (c : Cpu) : LoadsResult .x v (c.ldx v) := ⟨rfl, Cpu.setZN_result _ _⟩

theorem Cpu.ldy_loads (v : Byte) (c : Cpu) : LoadsResult .y v (c.ldy v) := ⟨rfl, Cpu.setZN_result _ _⟩

/-- Settles O20: each of the three computes from its operand byte, and what it computes is the byte itself. -/
theorem loadsFillTheirRegister : Obligations.LoadsFillTheirRegister := by
  intro m r hm i s hi
  obtain ⟨f, hf, hpc, hloads, hregs, hflags⟩ : ∃ f, effectOf (some m) = .compute f ∧ (∀ v c, (f v c).pc = c.pc) ∧
      (∀ v c, LoadsResult r v (f v c)) ∧ regsWritten (some m) = [r] ∧ flagsWritten (some m) = 0x82#8 := by
    simp only [List.mem_cons, List.not_mem_nil, or_false, Prod.mk.injEq] at hm
    obtain ⟨rfl, rfl⟩ | ⟨rfl, rfl⟩ | ⟨rfl, rfl⟩ := hm
    · exact ⟨_, rfl, fun _ _ => rfl, Cpu.lda_loads, rfl, rfl⟩
    · exact ⟨_, rfl, fun _ _ => rfl, Cpu.ldx_loads, rfl, rfl⟩
    · exact ⟨_, rfl, fun _ _ => rfl, Cpu.ldy_loads, rfl, rfl⟩
  obtain ⟨e, he, henc, t, ht, h⟩ := exec_computed hf hpc hi s
  obtain ⟨hreg, hresult⟩ := hloads (operandValue i.operand s).1 s.cpu
  have hkept := h.kept
  rw [hregs, hflags] at hkept
  exact ⟨e, he, henc, t, ht, (h.regs r).trans hreg, .of_p hresult h.status, hkept, h.reads, h.ends⟩

/-! The stores. -/

/-- The hook of a write does to the devices what it would have done before the byte was stored: it does not read `MEM` (R342). -/
theorem memWrite_devices (a : Word) (v : Byte) (s : State) :
    (memWrite a v s).ppu = (writeHook a v s).ppu ∧ (memWrite a v s).pad = (writeHook a v s).pad := by
  unfold memWrite writeHook
  split_ifs <;> exact ⟨rfl, rfl⟩

/-- A bus write after bus reads stores one byte and runs the hook of its address (R342). -/
theorem AfterStore.of_memWrite {s u : State} (hmem : u.mem = s.mem) (hinbox : u.inbox = s.inbox) (ea : Word) (v : Byte) :
    AfterStore ea v s u (memWrite ea v u) := by
  obtain ⟨hppu, hpad⟩ := memWrite_devices ea v u
  have hstored : (memWrite ea v u).mem = s.mem.write ea.toNat v := by rw [memWrite_mem, hmem]
  refine ⟨?_, .of_write hstored, hppu, hpad, (memWrite_inbox _ _ _).trans hinbox⟩
  rw [State.peek, hstored, Memory.read_write_same]

/-- Every form of a mnemonic that stores a register completes, as a line of its rule says; where no form is marked for a page
cross, the cycles are fixed (R154, R183 to R185). -/
theorem exec_stored {m : Mnemonic} {reg : Cpu → Byte} (hf : effectOf (some m) = .store reg)
    (hplus : ∀ e ∈ encodingsOf m, e.plus = false) {i : Instr} (hm : i.mnemonic = some m) (s : State) :
    ∃ e ∈ encodingsOf m, EncodedAs i e ∧ ∃ t, exec i s = .next t ∧
      AfterStore (resolve i.operand s).addr (reg s.cpu) s s t ∧
      CpuKeptBut (regsWritten (some m)) (flagsWritten (some m)) s.cpu t.cpu ∧ FallsThrough e.bytes e.cycles s.cpu t.cpu := by
  have hlisted := tableEntry_listed i.opcode m ((assemble_mnemonic i _ _).trans hm)
  have hfixed (crossed : Bool) : pageExtra i.opcode crossed = 0 := by
    have : pageSensitive i.opcode = false := hplus _ hlisted
    simp [pageExtra, this]
  have hst : (resolve i.operand s).st = s := resolve_st s fun a ha => by
    obtain rfl : m = .jmp := Option.some.inj (hm.symm.trans (opcode_of_ind (congrArg formatOf ha)).2)
    cases hf
  have hexec := exec_eq_run i s
  rw [hm, hf, Effect.run, storeOperand, hst] at hexec
  refine ⟨_, hlisted, encodedAs_tableEntry i, _, hexec, .of_memWrite rfl rfl _ _, exec_cpuKeptBut hm hexec, ?_, ?_⟩
  · rw [retire_cpu_pc, memWrite_cpu]
    rfl
  · rw [retire_cpu_cyc, memWrite_cpu, hfixed]
    rfl

/-- Settles O21: each of the three stores its own register, and none of their forms is marked for a page cross. -/
theorem storesWriteTheirRegister : Obligations.StoresWriteTheirRegister := by
  intro m r hm i s hi
  obtain ⟨hf, hplus, hregs, hflags⟩ : effectOf (some m) = .store (·.reg r) ∧ (∀ e ∈ encodingsOf m, e.plus = false) ∧
      regsWritten (some m) = [] ∧ flagsWritten (some m) = 0x00#8 := by
    simp only [List.mem_cons, List.not_mem_nil, or_false, Prod.mk.injEq] at hm
    obtain ⟨rfl, rfl⟩ | ⟨rfl, rfl⟩ | ⟨rfl, rfl⟩ := hm <;> exact ⟨rfl, by decide, rfl, rfl⟩
  have hstored := exec_stored hf hplus hi s
  rwa [hregs, hflags] at hstored

/-! The transfers. -/

/-- What an instruction of the mnemonic `m` that does `f` to the registers and flags alone leaves of `s`: the registers and
`P` as `f` makes them, everything else as it was, and `PC` and `CYC` moved on as the encoding line `e` says (R152, R167). -/
structure OnRegisters (m : Mnemonic) (f : Cpu → Cpu) (e : Encoding) (s t : State) : Prop where
  regs : ∀ r, t.cpu.reg r = (f s.cpu).reg r
  status : t.cpu.p = (f s.cpu).p
  kept : CpuKeptBut (regsWritten (some m)) (flagsWritten (some m)) s.cpu t.cpu
  outside : OutsideKept s t
  ends : FallsThrough e.bytes e.cycles s.cpu t.cpu

/-- Every instruction that works on registers and flags alone completes, as the line of its rule says. -/
theorem exec_onRegisters {m : Mnemonic} {f : Cpu → Cpu} (hf : effectOf (some m) = .inherent f)
    (hpc : ∀ c, (f c).pc = c.pc) {i : Instr} (hm : i.mnemonic = some m) (s : State) :
    ∃ e ∈ encodingsOf m, EncodedAs i e ∧ ∃ t, exec i s = .next t ∧ OnRegisters m f e s t := by
  have hexec := exec_eq_run i s
  rw [hm, hf] at hexec
  have hcyc : (f s.cpu).cyc = s.cpu.cyc := ((hf ▸ effectOf_steady m : (Effect.inherent f).Steady) s.cpu).1
  refine ⟨_, tableEntry_listed i.opcode m ((assemble_mnemonic i _ _).trans hm), encodedAs_tableEntry i, _, hexec, ?_⟩
  refine ⟨fun r => by cases r <;> rfl, rfl, exec_cpuKeptBut hm hexec, ⟨fun _ => rfl, rfl, rfl, rfl⟩, ?_, ?_⟩
  · simp only [Effect.run, inherent, retire_cpu_pc, State.mapCpu_cpu, hpc]
    rfl
  · simp only [Effect.run, inherent, retire_cpu_cyc, State.mapCpu_cpu, hcyc]
    rfl

/-- Settles O22: five of the transfers load their destination with their source as a load does with its operand byte; TXS
writes `SP` alone. -/
theorem transfersCopyARegister : Obligations.TransfersCopyARegister := by
  refine ⟨fun m src dst hm i s hi => ?_, fun i s hi => ?_⟩
  · obtain ⟨f, hf, hpc, hloads, hregs, hflags⟩ : ∃ f, effectOf (some m) = .inherent f ∧ (∀ c, (f c).pc = c.pc) ∧
        (∀ c, LoadsResult dst (c.reg src) (f c)) ∧ regsWritten (some m) = [dst] ∧ flagsWritten (some m) = 0x82#8 := by
      simp only [List.mem_cons, List.not_mem_nil, or_false, Prod.mk.injEq] at hm
      obtain ⟨rfl, rfl, rfl⟩ | ⟨rfl, rfl, rfl⟩ | ⟨rfl, rfl, rfl⟩ | ⟨rfl, rfl, rfl⟩ | ⟨rfl, rfl, rfl⟩ := hm
      · exact ⟨_, rfl, fun _ => rfl, fun c => c.ldx_loads c.a, rfl, rfl⟩
      · exact ⟨_, rfl, fun _ => rfl, fun c => c.ldy_loads c.a, rfl, rfl⟩
      · exact ⟨_, rfl, fun _ => rfl, fun c => c.lda_loads c.x, rfl, rfl⟩
      · exact ⟨_, rfl, fun _ => rfl, fun c => c.lda_loads c.y, rfl, rfl⟩
      · exact ⟨_, rfl, fun _ => rfl, fun c => c.ldx_loads c.sp, rfl, rfl⟩
    obtain ⟨e, he, henc, t, ht, h⟩ := exec_onRegisters hf hpc hi s
    obtain ⟨hreg, hresult⟩ := hloads s.cpu
    have hkept := h.kept
    rw [hregs, hflags] at hkept
    exact ⟨e, he, henc, t, ht, (h.regs dst).trans hreg, .of_p hresult h.status, hkept, h.outside, h.ends⟩
  · obtain ⟨e, he, henc, t, ht, h⟩ := exec_onRegisters (f := Cpu.txs) rfl (fun _ => rfl) hi s
    exact ⟨e, he, henc, t, ht, h.regs .sp, h.kept, h.outside, h.ends⟩

end Sys2Proof.Machine
end

section
/-! SUPPORT. Logic, BIT, and the increments and decrements (42_arithmetic_logic.md R202 to R204, R208 to R214). The forms
that read an operand byte are cases of `exec_computed`, those on an index register of `exec_onRegisters`; the
read-modify-write forms get a lemma of that kind here. -/

namespace Sys2Proof.Machine

/-! The cycles of a rule with no page-cross mark. -/

/-- An entry without the page-cross mark takes its base cycles whether or not a page was crossed (R154). -/
theorem Encoding.cyclesWhen_of_unmarked {e : Encoding} (h : e.plus = false) (crossed : Bool) :
    e.cyclesWhen crossed = e.cycles := by
  simp [cyclesWhen, h]

/-! The logic on the accumulator. -/

/-- What AND, ORA and EOR make of `A` and the operand byte (R202, R203, R204). -/
def logicResult (m : Mnemonic) (u v : Byte) : Byte := if m = .and then u &&& v else if m = .ora then u ||| v else u ^^^ v

theorem Cpu.andA_loads (v : Byte) (c : Cpu) : LoadsResult .a (c.a &&& v) (c.andA v) := ⟨rfl, Cpu.setZN_result _ _⟩

theorem Cpu.oraA_loads (v : Byte) (c : Cpu) : LoadsResult .a (c.a ||| v) (c.oraA v) := ⟨rfl, Cpu.setZN_result _ _⟩

theorem Cpu.eorA_loads (v : Byte) (c : Cpu) : LoadsResult .a (c.a ^^^ v) (c.eorA v) := ⟨rfl, Cpu.setZN_result _ _⟩

/-- Settles O24: each of the three loads `A` with its own operation on `A` and the operand byte. -/
theorem logicOnTheAccumulator : Obligations.LogicOnTheAccumulator := by
  intro m hm i s hi
  obtain ⟨f, hf, hpc, hloads, hregs, hflags⟩ : ∃ f, effectOf (some m) = .compute f ∧ (∀ v c, (f v c).pc = c.pc) ∧
      (∀ v c, LoadsResult .a (logicResult m c.a v) (f v c)) ∧ regsWritten (some m) = [.a] ∧
      flagsWritten (some m) = 0x82#8 := by
    simp only [List.mem_cons, List.not_mem_nil, or_false] at hm
    obtain rfl | rfl | rfl := hm
    · exact ⟨_, rfl, fun _ _ => rfl, Cpu.andA_loads, rfl, rfl⟩
    · exact ⟨_, rfl, fun _ _ => rfl, Cpu.oraA_loads, rfl, rfl⟩
    · exact ⟨_, rfl, fun _ _ => rfl, Cpu.eorA_loads, rfl, rfl⟩
  obtain ⟨e, he, henc, t, ht, h⟩ := exec_computed hf hpc hi s
  obtain ⟨hreg, hresult⟩ := hloads (operandValue i.operand s).1 s.cpu
  have hkept := h.kept
  rw [hregs, hflags] at hkept
  exact ⟨e, he, henc, t, ht, (h.regs .a).trans hreg, .of_p hresult h.status, hkept, h.reads, h.ends⟩

/-! BIT (R208). -/

theorem Cpu.bitTest_flagZ (m : Byte) (c : Cpu) : (c.bitTest m).flagZ = decide (c.a &&& m = 0x00#8) := by
  simp only [Cpu.bitTest, Cpu.flagZ, Cpu.setV_p, Cpu.setN_p, Cpu.setZ_p, putFlag_bit _ _ _ 1 (by decide)]
  simp [maskZ, maskN, maskV, beq_eq_decide]

theorem Cpu.bitTest_flagN (m : Byte) (c : Cpu) : (c.bitTest m).flagN = m.getLsbD 7 := by
  simp only [Cpu.bitTest, Cpu.flagN, Cpu.setV_p, Cpu.setN_p, putFlag_bit _ _ _ 7 (by decide)]
  simp [maskN, maskV]

theorem Cpu.bitTest_flagV (m : Byte) (c : Cpu) : (c.bitTest m).flagV = m.getLsbD 6 := by
  simp only [Cpu.bitTest, Cpu.flagV, Cpu.setV_p, putFlag_bit _ _ _ 6 (by decide)]
  simp [maskV]

/-- Settles O26: BIT computes the three flags from its operand byte, and neither of its forms is marked for a page cross. -/
theorem bitTestsTheOperand : Obligations.BitTestsTheOperand := by
  intro i s hi
  obtain ⟨e, he, henc, t, ht, h⟩ := exec_computed (f := Cpu.bitTest) rfl (fun _ _ => rfl) hi s
  have hplus : ∀ e ∈ encodingsOf .bit, e.plus = false := by decide
  have hends := h.ends
  rw [Encoding.cyclesWhen_of_unmarked (hplus e he)] at hends
  exact ⟨e, he, henc, t, ht, (congrArg (·.getLsbD 1) h.status).trans (Cpu.bitTest_flagZ _ _),
    (congrArg (·.getLsbD 7) h.status).trans (Cpu.bitTest_flagN _ _),
    (congrArg (·.getLsbD 6) h.status).trans (Cpu.bitTest_flagV _ _), h.kept, h.reads, hends⟩

/-! One more and one less, modulo 256. -/

theorem add_one_eq_ofNat (v : Byte) : v + 1#8 = BitVec.ofNat 8 (v.toNat + 1) := rfl

theorem sub_one_eq_ofNat (v : Byte) : v - 1#8 = BitVec.ofNat 8 (v.toNat + 255) :=
  congrArg (BitVec.ofNat 8) (Nat.add_comm 255 v.toNat)

/-! The read-modify-write forms. -/

/-- What a form `i` that writes back the byte `f` makes of the one it read leaves of `s`: the byte stored at the effective
address after the read, `P` as `f` makes it, and `PC` and `CYC` moved on as the encoding line `e` says (R79, R154, R167). -/
structure Modified (f : Byte → Cpu → Byte × Cpu) (e : Encoding) (i : Instr) (s t : State) : Prop where
  stored : AfterStore (resolve i.operand s).addr (f (memRead (resolve i.operand s).addr s).1 s.cpu).1 s
    (memRead (resolve i.operand s).addr s).2 t
  status : t.cpu.p = (f (memRead (resolve i.operand s).addr s).1 s.cpu).2.p
  ends : FallsThrough e.bytes (e.cyclesWhen (resolve i.operand s).crossed) s.cpu t.cpu

/-- A bus write neither reads nor changes the CPU (R342). -/
theorem memWrite_mapCpu (a : Word) (v : Byte) (f : Cpu → Cpu) (s : State) :
    memWrite a v (s.mapCpu f) = (memWrite a v s).mapCpu f := by
  unfold memWrite writeHook
  split_ifs <;> rfl

/-- Only JMP has a pointer outside page zero, so no other resolver runs a hook (R140, R148). -/
theorem resolve_st_of_ne_jmp {i : Instr} {m : Mnemonic} (hm : i.mnemonic = some m) (hjmp : m ≠ .jmp) (s : State) :
    (resolve i.operand s).st = s :=
  resolve_st s fun _ ha => hjmp (Option.some.inj (hm.symm.trans (opcode_of_ind (congrArg formatOf ha)).2))

/-- The shared routine of the read-modify-write forms leaves what R79 says. -/
theorem modifyOperand_modified {f : Byte → Cpu → Byte × Cpu} (hpc : ∀ v c, (f v c).2.pc = c.pc)
    (hcyc : ∀ v c, (f v c).2.cyc = c.cyc) {i : Instr} {s : State} (hst : (resolve i.operand s).st = s) :
    Modified f (tableEntry i.opcode) i s (modifyOperand i.opcode (resolve i.operand s) f) := by
  have hrun : modifyOperand i.opcode (resolve i.operand s) f =
      let ea := (resolve i.operand s).addr
      let q := f (memRead ea s).1 s.cpu
      retire i.opcode (resolve i.operand s).crossed ((memWrite ea q.1 (memRead ea s).2).mapCpu fun _ => q.2) := by
    simp only [modifyOperand, hst, memRead_cpu, memWrite_mapCpu]
  rw [hrun]
  refine ⟨.of_memWrite (memRead_mem _ _) (memRead_inbox _ _) _ _, rfl, ?_, ?_⟩
  · simp only [retire_cpu_pc, State.mapCpu_cpu, hpc]
    rfl
  · simp only [retire_cpu_cyc, State.mapCpu_cpu, hcyc]
    rfl

/-- Every form of a mnemonic that changes a byte of memory completes, as a line of its rule says. -/
theorem exec_modified {m : Mnemonic} {f : Byte → Cpu → Byte × Cpu} (hf : effectOf (some m) = .modify f)
    (hpc : ∀ v c, (f v c).2.pc = c.pc) {i : Instr} (hm : i.mnemonic = some m) (s : State) :
    ∃ e ∈ encodingsOf m, EncodedAs i e ∧ ∃ t, exec i s = .next t ∧ Modified f e i s t ∧
      CpuKeptBut (regsWritten (some m)) (flagsWritten (some m)) s.cpu t.cpu := by
  have hexec := exec_eq_run i s
  rw [hm, hf] at hexec
  have hcyc : ∀ v c, (f v c).2.cyc = c.cyc := fun v c => (hf ▸ effectOf_steady m : (Effect.modify f).Steady) v c |>.1
  have hjmp : m ≠ .jmp := by rintro rfl; cases hf
  exact ⟨_, tableEntry_listed i.opcode m ((assemble_mnemonic i _ _).trans hm), encodedAs_tableEntry i, _, hexec,
    modifyOperand_modified hpc hcyc (resolve_st_of_ne_jmp hm hjmp s), exec_cpuKeptBut hm hexec⟩

/-- What INC and DEC make of the byte they read (R209, R210). -/
def steppedByte (m : Mnemonic) (v : Byte) : Byte :=
  if m = .inc then BitVec.ofNat 8 (v.toNat + 1) else BitVec.ofNat 8 (v.toNat + 255)

/-- What `r <- v; setZN(v)` answers to be written, with the CPU whose Z and N follow it (R209, R210). -/
def WritesResult (v : Byte) (q : Byte × Cpu) : Prop := q.1 = v ∧ ResultFlags v q.2

theorem Cpu.incM_writes (v : Byte) (c : Cpu) : WritesResult (BitVec.ofNat 8 (v.toNat + 1)) (c.incM v) :=
  ⟨add_one_eq_ofNat v, add_one_eq_ofNat v ▸ Cpu.setZN_result _ _⟩

theorem Cpu.decM_writes (v : Byte) (c : Cpu) : WritesResult (BitVec.ofNat 8 (v.toNat + 255)) (c.decM v) :=
  ⟨sub_one_eq_ofNat v, sub_one_eq_ofNat v ▸ Cpu.setZN_result _ _⟩

/-- Settles O27: both write back the byte they read stepped by one, and none of their forms is marked for a page cross. -/
theorem incrementAndDecrementMemory : Obligations.IncrementAndDecrementMemory := by
  intro m hm i s hi
  obtain ⟨f, hf, hpc, hwrites, hplus, hregs, hflags⟩ : ∃ f, effectOf (some m) = .modify f ∧
      (∀ v c, (f v c).2.pc = c.pc) ∧ (∀ v c, WritesResult (steppedByte m v) (f v c)) ∧
      (∀ e ∈ encodingsOf m, e.plus = false) ∧ regsWritten (some m) = [] ∧ flagsWritten (some m) = 0x82#8 := by
    simp only [List.mem_cons, List.not_mem_nil, or_false] at hm
    obtain rfl | rfl := hm
    · exact ⟨_, rfl, fun _ _ => rfl, Cpu.incM_writes, by decide, rfl, rfl⟩
    · exact ⟨_, rfl, fun _ _ => rfl, Cpu.decM_writes, by decide, rfl, rfl⟩
  obtain ⟨e, he, henc, t, ht, ⟨hstored, hstatus, hends⟩, hkept⟩ := exec_modified hf hpc hi s
  obtain ⟨hbyte, hresult⟩ := hwrites (memRead (resolve i.operand s).addr s).1 s.cpu
  rw [hbyte] at hstored
  rw [hregs, hflags] at hkept
  rw [Encoding.cyclesWhen_of_unmarked (hplus e he)] at hends
  exact ⟨e, he, henc, t, ht, hstored, .of_p hresult hstatus, hkept, hends⟩

/-! The index registers. -/

theorem Cpu.inx_loads (c : Cpu) : LoadsResult .x (BitVec.ofNat 8 (c.x.toNat + 1)) c.inx :=
  add_one_eq_ofNat c.x ▸ c.ldx_loads (c.x + 1#8)

theorem Cpu.iny_loads (c : Cpu) : LoadsResult .y (BitVec.ofNat 8 (c.y.toNat + 1)) c.iny :=
  add_one_eq_ofNat c.y ▸ c.ldy_loads (c.y + 1#8)

theorem Cpu.dex_loads (c : Cpu) : LoadsResult .x (BitVec.ofNat 8 (c.x.toNat + 255)) c.dex :=
  sub_one_eq_ofNat c.x ▸ c.ldx_loads (c.x - 1#8)

theorem Cpu.dey_loads (c : Cpu) : LoadsResult .y (BitVec.ofNat 8 (c.y.toNat + 255)) c.dey :=
  sub_one_eq_ofNat c.y ▸ c.ldy_loads (c.y - 1#8)

/-- Settles O28: each of the four loads its register with the register stepped by one. -/
theorem incrementAndDecrementIndex : Obligations.IncrementAndDecrementIndex := by
  intro m r k hm i s hi
  obtain ⟨f, hf, hpc, hloads, hregs, hflags⟩ : ∃ f, effectOf (some m) = .inherent f ∧ (∀ c, (f c).pc = c.pc) ∧
      (∀ c, LoadsResult r (BitVec.ofNat 8 ((c.reg r).toNat + k)) (f c)) ∧ regsWritten (some m) = [r] ∧
      flagsWritten (some m) = 0x82#8 := by
    simp only [List.mem_cons, List.not_mem_nil, or_false, Prod.mk.injEq] at hm
    obtain ⟨rfl, rfl, rfl⟩ | ⟨rfl, rfl, rfl⟩ | ⟨rfl, rfl, rfl⟩ | ⟨rfl, rfl, rfl⟩ := hm
    · exact ⟨_, rfl, fun _ => rfl, Cpu.inx_loads, rfl, rfl⟩
    · exact ⟨_, rfl, fun _ => rfl, Cpu.iny_loads, rfl, rfl⟩
    · exact ⟨_, rfl, fun _ => rfl, Cpu.dex_loads, rfl, rfl⟩
    · exact ⟨_, rfl, fun _ => rfl, Cpu.dey_loads, rfl, rfl⟩
  obtain ⟨e, he, henc, t, ht, h⟩ := exec_onRegisters hf hpc hi s
  obtain ⟨hreg, hresult⟩ := hloads s.cpu
  have hstep : t.cpu.reg r = BitVec.ofNat 8 ((s.cpu.reg r).toNat + k) := (h.regs r).trans hreg
  have hkept := h.kept
  rw [hregs, hflags] at hkept
  exact ⟨e, he, henc, t, ht, hstep ▸ BitVec.toNat_ofNat _ _, hstep ▸ .of_p hresult h.status, hkept, h.outside, h.ends⟩

end Sys2Proof.Machine
end

section
/-! SUPPORT. Shifts and rotates (43_shift_rotate.md R230 to R233). The four are one function of the mnemonic, written in the
arithmetic of natural numbers; the accumulator form does it to `A`, a memory form is a read-modify-write. -/

namespace Sys2Proof.Machine

/-! The shifted byte as a number. -/

theorem shiftLeft_one_eq_ofNat (v : Byte) : v <<< 1 = BitVec.ofNat 8 (v.toNat * 2) := by
  apply BitVec.eq_of_toNat_eq
  simp [Nat.shiftLeft_eq]

theorem ushiftRight_one_eq_ofNat (v : Byte) : v >>> 1 = BitVec.ofNat 8 (v.toNat / 2) := by
  apply BitVec.eq_of_toNat_eq
  have hlt := v.isLt
  rw [BitVec.toNat_ushiftRight, BitVec.toNat_ofNat, Nat.shiftRight_one]
  omega

theorem bitByte_eq_ofNat (b : Bool) : bitByte b = BitVec.ofNat 8 b.toNat := by cases b <;> rfl

/-- A left shift leaves bit 0 free, so the carry is added there (R232). -/
theorem shiftLeft_one_or_bit (v : Byte) (b : Bool) :
    (v <<< 1) ||| bitByte b = BitVec.ofNat 8 (v.toNat * 2 + b.toNat) := by
  have hadd : v.toNat * 2 ||| b.toNat = v.toNat * 2 + b.toNat := by
    rw [Nat.mul_comm]
    exact (Nat.two_pow_add_eq_or_of_lt (i := 1) b.toNat_lt v.toNat).symm
  rw [shiftLeft_one_eq_ofNat, bitByte_eq_ofNat, ← BitVec.ofNat_or, hadd]

/-- A right shift leaves bit 7 free, so the carry is added there (R233). -/
theorem ushiftRight_one_or_bit (v : Byte) (b : Bool) :
    (v >>> 1) ||| (bitByte b <<< 7) = BitVec.ofNat 8 (v.toNat / 2 + b.toNat * 128) := by
  have hbit : bitByte b <<< 7 = BitVec.ofNat 8 (b.toNat * 128) := by cases b <;> rfl
  have hadd : v.toNat / 2 ||| b.toNat * 128 = v.toNat / 2 + b.toNat * 128 := by
    have hlt : v.toNat / 2 < 2 ^ 7 := Nat.div_lt_of_lt_mul v.isLt
    rw [Nat.or_comm, Nat.add_comm, Nat.mul_comm]
    exact (Nat.two_pow_add_eq_or_of_lt hlt b.toNat).symm
  rw [ushiftRight_one_eq_ofNat, hbit, ← BitVec.ofNat_or, hadd]

/-! The four as one. -/

/-- The bit of the source that a mnemonic shifts out into C. -/
def shiftedOut (m : Mnemonic) (v : Byte) : Bool := if m = .asl ∨ m = .rol then v.getLsbD 7 else v.getLsbD 0

/-- The byte a mnemonic makes of its source and the old carry. -/
def shiftedByte (m : Mnemonic) (v : Byte) (carry : Bool) : Byte :=
  if m = .asl then BitVec.ofNat 8 (v.toNat * 2)
  else if m = .lsr then BitVec.ofNat 8 (v.toNat / 2)
  else if m = .rol then BitVec.ofNat 8 (v.toNat * 2 + carry.toNat)
  else BitVec.ofNat 8 (v.toNat / 2 + carry.toNat * 128)

/-- What a shift or rotate makes of its source byte and the CPU. -/
def Cpu.shiftAs (m : Mnemonic) (v : Byte) (c : Cpu) : Byte × Cpu := c.shifted (shiftedOut m v) (shiftedByte m v c.flagC)

theorem effectOf_shiftAs {m : Mnemonic} (hm : m ∈ [Mnemonic.asl, .lsr, .rol, .ror]) :
    effectOf (some m) = .shift (Cpu.shiftAs m) := by
  simp only [List.mem_cons, List.not_mem_nil, or_false] at hm
  obtain rfl | rfl | rfl | rfl := hm <;> refine congrArg Effect.shift (funext₂ fun v c => ?_)
  · exact congrArg (c.shifted _) (shiftLeft_one_eq_ofNat v)
  · exact congrArg (c.shifted _) (ushiftRight_one_eq_ofNat v)
  · exact congrArg (c.shifted _) (shiftLeft_one_or_bit v c.flagC)
  · exact congrArg (c.shifted _) (ushiftRight_one_or_bit v c.flagC)

theorem Cpu.shifted_flagC (out : Bool) (r : Byte) (c : Cpu) : (c.shifted out r).2.flagC = out := by
  simp only [Cpu.shifted, Cpu.flagC, Cpu.setZN_p, Cpu.setC_p, putFlag_bit _ _ _ 0 (by decide)]
  simp [maskC, maskZ, maskN]

/-- C, Z and N wherever `P` is as the shift makes it. -/
theorem Cpu.shiftAs_flags {m : Mnemonic} {v : Byte} {c c' : Cpu} (hp : c'.p = (c.shiftAs m v).2.p) :
    c'.flagC = shiftedOut m v ∧ ResultFlags (shiftedByte m v c.flagC) c' :=
  ⟨(congrArg (·.getLsbD 0) hp).trans (Cpu.shifted_flagC _ _ _), .of_p (Cpu.setZN_result _ _) hp⟩

/-- The shift itself writes no byte register: the accumulator form stores its result afterwards. -/
theorem Cpu.shiftAs_writesOnly (m : Mnemonic) (v : Byte) (c : Cpu) : WritesOnly [] 0x83#8 c (c.shiftAs m v).2 :=
  ⟨fun r _ => by cases r <;> rfl, c.shifted_kept _ _⟩

/-! The two kinds of form. -/

/-- What the accumulator form of `m` leaves of `s`, with the encoding line `e` (R153). -/
structure ShiftedAccumulator (m : Mnemonic) (e : Encoding) (s t : State) : Prop where
  result : t.cpu.a = (s.cpu.shiftAs m s.cpu.a).1
  status : t.cpu.p = (s.cpu.shiftAs m s.cpu.a).2.p
  outside : OutsideKept s t
  ends : FallsThrough e.bytes e.cycles s.cpu t.cpu

theorem modifyAccumulator_shiftAs (m : Mnemonic) (op : Byte) (s : State) :
    ShiftedAccumulator m (tableEntry op) s (modifyAccumulator op (Cpu.shiftAs m) s) :=
  ⟨rfl, rfl, ⟨fun _ => rfl, rfl, rfl, rfl⟩, rfl, rfl⟩

/-- Settles O29: the accumulator form and the read-modify-write forms do the same function of the mnemonic to their source,
and none of them is marked for a page cross. -/
theorem shiftsAndRotates : Obligations.ShiftsAndRotates := by
  intro m hm i s hi
  obtain ⟨hregs, hflags, hplus, hjmp⟩ : regsWritten (some m) = [.a] ∧ flagsWritten (some m) = 0x83#8 ∧
      (∀ e ∈ encodingsOf m, e.plus = false) ∧ m ≠ .jmp := by
    simp only [List.mem_cons, List.not_mem_nil, or_false] at hm
    obtain rfl | rfl | rfl | rfl := hm <;> exact ⟨rfl, rfl, by decide, by decide⟩
  have hlisted := tableEntry_listed i.opcode m ((assemble_mnemonic i _ _).trans hi)
  have hexec := exec_eq_run i s
  have hkept := exec_cpuKeptBut hi hexec
  rw [hregs, hflags] at hkept
  rw [hi, effectOf_shiftAs hm, Effect.run] at hexec hkept
  refine ⟨_, hlisted, encodedAs_tableEntry i, _, hexec, ?_⟩
  by_cases hacc : i.operand = .acc
  · simp only [if_pos hacc] at hkept ⊢
    obtain ⟨hresult, hstatus, houtside, hends⟩ := modifyAccumulator_shiftAs m i.opcode s
    obtain ⟨hC, hZN⟩ := Cpu.shiftAs_flags hstatus
    exact ⟨hC, hZN, hends, fun _ => ⟨hresult, hkept, houtside⟩, fun hne => absurd hacc hne⟩
  · simp only [if_neg hacc] at hkept ⊢
    obtain ⟨hstored, hstatus, hends⟩ := modifyOperand_modified (f := Cpu.shiftAs m) (fun _ _ => rfl) (fun _ _ => rfl)
      (resolve_st_of_ne_jmp hi hjmp s)
    obtain ⟨hC, hZN⟩ := Cpu.shiftAs_flags hstatus
    obtain ⟨hregs', -⟩ := WritesOnly.modifyOperand (Cpu.shiftAs_writesOnly m) i.opcode i.operand s
    obtain ⟨-, hflags', hlatches⟩ := hkept
    rw [Encoding.cyclesWhen_of_unmarked (hplus _ hlisted)] at hends
    exact ⟨hC, hZN, hends, fun h => absurd h hacc, fun _ => ⟨⟨hregs', hflags', hlatches⟩, hstored⟩⟩

end Sys2Proof.Machine
end

section
/-! SUPPORT. Jumps, calls and returns (44_branch_jump.md R248 to R250): what the two pushes of a return address leave in the
stack, and the return address read back from it. -/

namespace Sys2Proof.Machine

/-! The two pushes of a 16-bit value (R71, R162). -/

/-- Two stores in turn keep every byte but those either of them names. -/
theorem MemKeptBut.trans {stored stored' : List Word} {s u t : State} (h : MemKeptBut stored s u)
    (h' : MemKeptBut stored' u t) : MemKeptBut (stored ++ stored') s t := by
  intro a ha
  rw [List.map_append, List.mem_append, not_or] at ha
  exact (h' a ha.2).trans (h a ha.1)

theorem push_memKeptBut (v : Byte) (s : State) : MemKeptBut [stackAddr s.cpu.sp] s (push v s) :=
  .of_write (congrArg State.mem (push_eq v s))

theorem push_sp (v : Byte) (s : State) : (push v s).cpu.sp = s.cpu.sp - 1#8 := congrArg (·.cpu.sp) (push_eq v s)

theorem push_peek (v : Byte) (s : State) : (push v s).peek (stackAddr s.cpu.sp) = v := by
  rw [push_eq]
  exact Memory.read_write_same _ _ _

/-- A push keeps every other cell of the stack. -/
theorem push_peek_of_ne {sp : Byte} {s : State} (h : s.cpu.sp ≠ sp) (v : Byte) :
    (push v s).peek (stackAddr sp) = s.peek (stackAddr sp) := by
  rw [push_eq]
  exact Memory.read_write_ne _ (fun e => h (stackAddr_inj _ _ (BitVec.eq_of_toNat_eq e))) _

theorem pushWord_memKeptBut (v : Word) (s : State) :
    MemKeptBut [stackAddr s.cpu.sp, stackAddr (s.cpu.sp - 1#8)] s (pushWord v s) := by
  have hlow := push_memKeptBut (loByte v) (push (hiByte v) s)
  rw [push_sp] at hlow
  exact (push_memKeptBut (hiByte v) s).trans hlow

theorem pushWord_peek_low (v : Word) (s : State) : (pushWord v s).peek (stackAddr (s.cpu.sp - 1#8)) = loByte v := by
  have hlow := push_peek (loByte v) (push (hiByte v) s)
  rwa [push_sp] at hlow

/-- The push of the low byte goes to another cell than that of the high byte, also where `SP` wraps. -/
theorem pushWord_peek_high (v : Word) (s : State) : (pushWord v s).peek (stackAddr s.cpu.sp) = hiByte v := by
  have hne : (push (hiByte v) s).cpu.sp ≠ s.cpu.sp := by
    rw [push_sp]
    exact mt sub_eq_self.mp (by decide)
  rw [pushWord, push_peek_of_ne hne, push_peek]

theorem pushWord_sp (v : Word) (s : State) : (pushWord v s).cpu.sp = s.cpu.sp - 2#8 := by
  rw [pushWord, push_sp, push_sp]
  exact sub_sub ..

theorem pushWord_devicesKept (v : Word) (s : State) : DevicesKept s (pushWord v s) := by
  rw [pushWord_eq]
  exact ⟨rfl, rfl, rfl⟩

/-! The pulled address (R250). -/

theorem add_one_add_one (sp : Byte) : sp + 1#8 + 1#8 = sp + 2#8 := add_assoc ..

/-- The address after a pulled one, as a number (R250). -/
theorem joinBytes_add_one (hi lo : Byte) :
    joinBytes hi lo + 1#16 = BitVec.ofNat 16 (hi.toNat * 256 + lo.toNat + 1) := by
  rw [← joinBytes_toNat]
  rfl

/-! The statements. -/

/-- Settles O31: both forms go to the address their resolver answers, and the resolver keeps all but the devices. -/
theorem jumpsSetThePc : Obligations.JumpsSetThePc := by
  intro i s hi
  have hexec := exec_eq_run i s
  rw [hi] at hexec
  have hcyc := congrArg (·.cyc + baseCycles i.opcode) (resolve_st_cpu i.operand s)
  exact ⟨_, tableEntry_listed i.opcode .jmp ((assemble_mnemonic i _ _).trans hi), encodedAs_tableEntry i, _, hexec,
    ⟨rfl, hcyc⟩, exec_cpuKeptBut hi hexec, fun a => congrArg (·.read a) (resolve_st_mem i.operand s), rfl, rfl,
    resolve_st_inbox _ _⟩

/-- JSR pushes the address of its own last byte and goes to its operand (R249). -/
theorem exec_jsrAbs (target : Word) (s : State) :
    exec (.jsrAbs target) s = .next (retireAt 0x20#8 ((pushWord (s.cpu.pc + 2#16) s).jump target)) := rfl

/-- RTS goes one past the address it pulls (R250). -/
theorem exec_rts (s : State) :
    exec .rts s = .next (retireAt 0x60#8 ((pullWord s).2.jump ((pullWord s).1 + 1#16))) := rfl

/-- Settles O32: JSR leaves what the two pushes leave, and RTS makes only the two pulls, which change nothing but `SP`. -/
theorem callAndReturn : Obligations.CallAndReturn := by
  refine ⟨fun i s hi => ?_, fun i s hi => ?_⟩
  · obtain ⟨target, rfl⟩ := eq_jsr hi
    have hexec := exec_jsrAbs target s
    have hcyc := congrArg (·.cpu.cyc + baseCycles 0x20#8) (pushWord_eq (s.cpu.pc + 2#16) s)
    exact ⟨_, tableEntry_listed 0x20#8 .jsr rfl, encodedAs_tableEntry (.jsrAbs target), target, rfl, _, hexec,
      pushWord_peek_high _ s, pushWord_peek_low _ s, pushWord_memKeptBut _ s, pushWord_sp _ s, exec_cpuKeptBut hi hexec,
      pushWord_devicesKept _ s, rfl, hcyc⟩
  · obtain rfl := eq_rts hi
    have hexec := exec_rts s
    rw [pullWord_eq, add_one_add_one, joinBytes_add_one] at hexec
    exact ⟨_, tableEntry_listed 0x60#8 .rts rfl, encodedAs_tableEntry .rts, _, hexec, ⟨rfl, rfl⟩, rfl,
      exec_cpuKeptBut hi hexec, fun _ => rfl, rfl, rfl, rfl⟩

/-- Where no bit may be written, `P` is as it was. -/
theorem FlagsKept.p_eq {c c' : Cpu} (h : FlagsKept 0x00#8 c c') : c'.p = c.p := by
  rwa [FlagsKept, show ~~~0x00#8 = BitVec.allOnes 8 from rfl, BitVec.and_allOnes, BitVec.and_allOnes] at h

/-- Settles O43: RTS pulls the two cells JSR pushed, so it goes one past the `PC + 2` pushed there. -/
theorem rtsUndoesJsr : Obligations.RtsUndoesJsr := by
  intro s target
  obtain ⟨hcall, hreturn⟩ := callAndReturn
  obtain ⟨-, -, -, _, ⟨⟩, u, hu, hhigh, hlow, -, husp, ⟨huregs, huflags, -⟩, -, hupc, -⟩ := hcall (.jsrAbs target) s rfl
  obtain ⟨-, -, -, t, ht, ⟨htpc, -⟩, htsp, ⟨htregs, htflags, -⟩, -⟩ := hreturn .rts u rfl
  have hsp : u.cpu.sp + 2#8 = s.cpu.sp := by rw [husp, BitVec.sub_add_cancel]
  have hsp1 : u.cpu.sp + 1#8 = s.cpu.sp - 1#8 := by
    rw [← hsp, ← add_one_add_one, BitVec.add_sub_cancel]
  refine ⟨u, t, hu, hupc, ht, ?_, htflags.p_eq.trans huflags.p_eq, fun r => ?_⟩
  · rw [htpc, hsp, hsp1, hhigh, hlow, ← joinBytes_add_one]
    calc joinBytes (hiByte (s.cpu.pc + 2#16)) (loByte (s.cpu.pc + 2#16)) + 1#16
      _ = s.cpu.pc + 2#16 + 1#16 := by rw [joinBytes_hi_lo]
      _ = s.cpu.pc + 3#16 := add_assoc ..
  · by_cases hr : r ∈ [Reg.sp]
    · obtain rfl := List.mem_singleton.mp hr
      exact htsp.trans hsp
    · exact (htregs r hr).trans (huregs r hr)

end Sys2Proof.Machine
end

section
/-! SUPPORT. Stack, flag and system instructions (45_stack_flag_system.md R260 to R273). PHA and PHP are one shape, the
seven flag instructions write one flag as `putFlag` does, and BRK leaves what the entry through a vector leaves, which it
shares with the interrupt service. -/

namespace Sys2Proof.Machine

/-! The stack instructions (R260 to R263). -/

theorem push_devicesKept (v : Byte) (s : State) : DevicesKept s (push v s) := by
  rw [push_eq]
  exact ⟨rfl, rfl, rfl⟩

/-- Every instruction that pushes a byte of the CPU completes, as the line of its rule says (R162, R260, R262). -/
theorem exec_pushed {m : Mnemonic} {reg : Cpu → Byte} (hf : effectOf (some m) = .push reg) {i : Instr}
    (hm : i.mnemonic = some m) (s : State) :
    ∃ e ∈ encodingsOf m, EncodedAs i e ∧ ∃ t, exec i s = .next t ∧
      t.peek (stackAddr s.cpu.sp) = reg s.cpu ∧ MemKeptBut [stackAddr s.cpu.sp] s t ∧ DevicesKept s t ∧
      t.cpu.sp = s.cpu.sp - 1#8 ∧ CpuKeptBut (regsWritten (some m)) (flagsWritten (some m)) s.cpu t.cpu ∧
      FallsThrough e.bytes e.cycles s.cpu t.cpu := by
  have hexec := exec_eq_run i s
  rw [hm, hf, Effect.run] at hexec
  have hcpu := congrArg State.cpu (push_eq (reg s.cpu) s)
  refine ⟨_, tableEntry_listed i.opcode m ((assemble_mnemonic i _ _).trans hm), encodedAs_tableEntry i, _, hexec,
    push_peek _ s, push_memKeptBut _ s, push_devicesKept _ s, push_sp _ s, exec_cpuKeptBut hm hexec, ?_, ?_⟩
  · rw [retire_cpu_pc, hcpu]
    rfl
  · rw [retire_cpu_cyc, hcpu]
    rfl

/-- PLA loads `A` with the pulled byte as LDA does (R261). -/
theorem exec_pla (s : State) :
    exec .pla s = .next (retire 0x68#8 false ((pull s).2.mapCpu (Cpu.lda (pull s).1))) := rfl

/-- PLP loads `P` from the pulled byte (R263). -/
theorem exec_plp (s : State) :
    exec .plp s = .next (retire 0x28#8 false ((pull s).2.mapCpu (Cpu.pullP (pull s).1))) := rfl

/-- Settles O33: PHA and PHP leave what a push leaves; PLA and PLP make one pull, which changes nothing but `SP`. -/
theorem stackInstructions : Obligations.StackInstructions := by
  refine ⟨fun m hm i s hi => ?_, fun i s hi => ?_, fun i s hi => ?_⟩
  · obtain ⟨hf, hregs, hflags⟩ : effectOf (some m) = .push (fun c => if m = .pha then c.a else c.p ||| 0x30#8) ∧
        regsWritten (some m) = [.sp] ∧ flagsWritten (some m) = 0x00#8 := by
      simp only [List.mem_cons, List.not_mem_nil, or_false] at hm
      obtain rfl | rfl := hm <;> exact ⟨rfl, rfl, rfl⟩
    have hpushed := exec_pushed hf hi s
    rwa [hregs, hflags] at hpushed
  · obtain rfl := eq_pla hi
    have hexec := exec_pla s
    rw [pull_eq] at hexec
    obtain ⟨hreg, hresult⟩ := Cpu.lda_loads (s.peek (stackAddr (s.cpu.sp + 1#8))) s.cpu
    exact ⟨_, tableEntry_listed 0x68#8 .pla rfl, encodedAs_tableEntry .pla, _, hexec, hreg, .of_p hresult rfl, rfl,
      exec_cpuKeptBut hi hexec, ⟨fun _ => rfl, rfl, rfl, rfl⟩, rfl, rfl⟩
  · obtain rfl := eq_plp hi
    have hexec := exec_plp s
    rw [pull_eq] at hexec
    exact ⟨_, tableEntry_listed 0x28#8 .plp rfl, encodedAs_tableEntry .plp, _, hexec, rfl, rfl,
      exec_cpuKeptBut hi hexec, ⟨fun _ => rfl, rfl, rfl, rfl⟩, rfl, rfl⟩

/-! The flag instructions and NOP (R264 to R271). -/

/-- Settles O34: each of the seven works on `P` alone and writes the one bit of its mask. -/
theorem flagInstructions : Obligations.FlagInstructions := by
  intro m n value hm i s hi
  obtain ⟨f, hf, hpc, hp, hn, hbit, hregs, hflags⟩ : ∃ f, effectOf (some m) = .inherent f ∧ (∀ c, (f c).pc = c.pc) ∧
      (∀ c, (f c).p = putFlag (0x01#8 <<< n) value c.p) ∧ n < 8 ∧ (0x01#8 <<< n).getLsbD n = true ∧
      regsWritten (some m) = [] ∧ flagsWritten (some m) = 0x01#8 <<< n := by
    simp only [List.mem_cons, List.not_mem_nil, or_false, Prod.mk.injEq] at hm
    obtain ⟨rfl, rfl, rfl⟩ | ⟨rfl, rfl, rfl⟩ | ⟨rfl, rfl, rfl⟩ | ⟨rfl, rfl, rfl⟩ | ⟨rfl, rfl, rfl⟩ | ⟨rfl, rfl, rfl⟩ |
      ⟨rfl, rfl, rfl⟩ := hm <;> exact ⟨_, rfl, fun _ => rfl, fun _ => rfl, by decide, rfl, rfl, rfl⟩
  obtain ⟨e, he, henc, t, ht, h⟩ := exec_onRegisters hf hpc hi s
  have hkept := h.kept
  rw [hregs, hflags] at hkept
  refine ⟨e, he, henc, t, ht, ?_, hkept, h.outside, h.ends⟩
  rw [h.status, hp, putFlag_bit _ _ _ n hn, if_pos hbit]

/-- Settles O35: NOP changes nothing before it ends, and it ends as the tables say for 0xEA: one byte, two cycles. -/
theorem nopOnlyAdvances : Obligations.NopOnlyAdvances := by
  intro i s hi
  obtain rfl := eq_nop hi
  exact ⟨rfl, rfl⟩

/-! The entry through a vector (R272, R410). -/

/-- What the entry with the return address `ret` through the vector at `vec` leaves of `s`: three bytes pushed and nothing
else stored, `P.I` set, `PC` from the vector, low byte first, and the rest of the machine as it was. -/
structure Entered (ret vec : Word) (s t : State) : Prop where
  high : t.peek (stackAddr s.cpu.sp) = hiByte ret
  low : t.peek (stackAddr (s.cpu.sp - 1#8)) = loByte ret
  status : t.peek (stackAddr (s.cpu.sp - 2#8)) = pushedStatus s.cpu.p
  stored : MemKeptBut [stackAddr s.cpu.sp, stackAddr (s.cpu.sp - 1#8), stackAddr (s.cpu.sp - 2#8)] s t
  devices : DevicesKept s t
  cpu : t.cpu = { s.cpu with
    sp := s.cpu.sp - 3#8
    p := s.cpu.p ||| 0x04#8
    pc := BitVec.ofNat 16 ((s.peek (vec + 1#16)).toNat * 256 + (s.peek vec).toNat) }

/-- Neither byte of a vector is a cell of the stack (R163, R413). -/
theorem vector_not_stacked (k : IntKind) :
    ∀ sp : Byte, vectorOf k ≠ stackAddr sp ∧ vectorOf k + 1#16 ≠ stackAddr sp := by
  cases k <;> decide

/-- An entry stores what its three pushes store. -/
theorem enterVector_mem (ret : Word) (k : IntKind) (s : State) :
    (enterVector ret (vectorOf k) s).mem = (push (pushedStatus s.cpu.p) (pushWord ret s)).mem := by
  rw [enterVector_eq, push_eq, pushWord_eq]

/-- Two bytes joined, as a number. -/
theorem joinBytes_eq_ofNat (hi lo : Byte) : joinBytes hi lo = BitVec.ofNat 16 (hi.toNat * 256 + lo.toNat) := by
  rw [← joinBytes_toNat, BitVec.ofNat_toNat, BitVec.setWidth_eq]

/-- A byte outside page one is none of the listed cells of the stack. -/
theorem MemKeptBut.peek_of_not_stacked {sps : List Byte} {s t : State} (h : MemKeptBut (sps.map stackAddr) s t)
    {a : Word} (ha : ∀ sp, a ≠ stackAddr sp) : t.peek a = s.peek a := by
  refine h a.toNat fun hmem => ?_
  simp only [List.map_map, List.mem_map, Function.comp_apply] at hmem
  obtain ⟨sp, -, he⟩ := hmem
  exact ha sp (BitVec.eq_of_toNat_eq he.symm)

/-- The CPU after an entry: `PC` is read from the vector when the three bytes have been pushed. -/
theorem enterVector_cpu (ret : Word) (k : IntKind) (s : State) :
    (enterVector ret (vectorOf k) s).cpu = { s.cpu with
      sp := s.cpu.sp - 3#8
      p := s.cpu.p ||| 0x04#8
      pc := joinBytes ((enterVector ret (vectorOf k) s).peek (vectorOf k + 1#16))
        ((enterVector ret (vectorOf k) s).peek (vectorOf k)) } := by
  have hsp : s.cpu.sp - 1#8 - 1#8 - 1#8 = s.cpu.sp - 3#8 := by
    rw [sub_sub, sub_sub]
    rfl
  rw [enterVector_eq, hsp]
  rfl

/-- An entry leaves what its three pushes leave in the stack; none of them reaches the vector, which is read after them. -/
theorem enterVector_entered (ret : Word) (k : IntKind) (s : State) :
    Entered ret (vectorOf k) s (enterVector ret (vectorOf k) s) := by
  have hsp := pushWord_sp ret s
  have hmem (a : Word) :
      (enterVector ret (vectorOf k) s).peek a = (push (pushedStatus s.cpu.p) (pushWord ret s)).peek a :=
    congrArg (·.read a.toNat) (enterVector_mem ret k s)
  have hother {sp : Byte} (h : s.cpu.sp - 2#8 ≠ sp) :
      (enterVector ret (vectorOf k) s).peek (stackAddr sp) = (pushWord ret s).peek (stackAddr sp) :=
    (hmem _).trans (push_peek_of_ne (hsp ▸ h) _)
  have hstored : MemKeptBut ([s.cpu.sp, s.cpu.sp - 1#8, s.cpu.sp - 2#8].map stackAddr) s
      (enterVector ret (vectorOf k) s) := fun a ha => by
    rw [enterVector_mem]
    exact (pushWord_memKeptBut ret s).trans (hsp ▸ push_memKeptBut (pushedStatus s.cpu.p) (pushWord ret s)) a ha
  refine ⟨?_, ?_, ?_, hstored, ?_, ?_⟩
  · rw [hother (mt sub_eq_self.mp (by decide)), pushWord_peek_high]
  · rw [hother (mt sub_right_inj.mp (by decide)), pushWord_peek_low]
  · rw [hmem, ← hsp, push_peek]
  · rw [enterVector_eq]
    exact ⟨rfl, rfl, rfl⟩
  · rw [enterVector_cpu, hstored.peek_of_not_stacked fun sp => (vector_not_stacked k sp).1,
      hstored.peek_of_not_stacked fun sp => (vector_not_stacked k sp).2, joinBytes_eq_ofNat]

/-- BRK enters through the vector of IRQ with the address two past its own (R272). -/
theorem exec_brk (s : State) :
    exec .brk s = .next (retireAt 0x00#8 (enterVector (s.cpu.pc + 2#16) (vectorOf .irq) s)) := rfl

/-- Settles O36: BRK is an entry, and it takes its base cycles. -/
theorem brkEntersThroughTheIrqVector : Obligations.BrkEntersThroughTheIrqVector := by
  intro i s hi
  obtain rfl := eq_brk hi
  have hexec := exec_brk s
  obtain ⟨hhigh, hlow, hstatus, hstored, hdevices, hcpu⟩ := enterVector_entered (s.cpu.pc + 2#16) .irq s
  have hflag : (s.cpu.p ||| 0x04#8).getLsbD 2 = true := by simp
  have hcyc : (enterVector (s.cpu.pc + 2#16) (vectorOf .irq) s).cpu.cyc = s.cpu.cyc := by rw [hcpu]
  exact ⟨_, tableEntry_listed 0x00#8 .brk rfl, encodedAs_tableEntry .brk, _, hexec, hhigh, hlow, hstatus, hstored,
    hdevices, congrArg Cpu.sp hcpu, (congrArg Cpu.flagI hcpu).trans hflag, exec_cpuKeptBut hi hexec, congrArg Cpu.pc hcpu,
    congrArg (· + baseCycles 0x00#8) hcyc⟩

/-! The return from an interrupt (R273). -/

/-- RTI loads what the return from an interrupt pulls (R273). -/
theorem exec_rti (s : State) : exec .rti s = .next (retireAt 0x40#8 (returnFromInterrupt s)) := rfl

/-- Settles O37: RTI makes only the three pulls, which change nothing but `SP`; the pulled address is `PC` as it stands. -/
theorem rtiRestoresStatusAndPc : Obligations.RtiRestoresStatusAndPc := by
  intro i s hi
  obtain rfl := eq_rti hi
  have hexec := exec_rti s
  have hsp : s.cpu.sp + 1#8 + 1#8 + 1#8 = s.cpu.sp + 3#8 := by
    rw [add_one_add_one]
    exact add_assoc ..
  rw [returnFromInterrupt_eq, hsp, add_one_add_one, joinBytes_eq_ofNat] at hexec
  exact ⟨_, tableEntry_listed 0x40#8 .rti rfl, encodedAs_tableEntry .rti, _, hexec, rfl, ⟨rfl, rfl⟩, rfl,
    exec_cpuKeptBut hi hexec, fun _ => rfl, rfl, rfl, rfl⟩

end Sys2Proof.Machine
end

section
/-! SUPPORT. The register hooks of the PPU (46_ppu_timing_engine.md R312 to R318): the halves of `T` that the two writes of
the address register load, and the data port's cell and increment in the arithmetic of natural numbers. -/

namespace Sys2Proof.Machine

/-- Settles O13: each hook is the statement's own record, with bit 7 of the status cleared by the mask 0x7F. -/
theorem controlAndStatusHooks : Obligations.ControlAndStatusHooks := fun _ _ => ⟨rfl, rfl, rfl⟩

/-! The address register (R314). -/

theorem Ppu.onWrite2006_first {p : Ppu} (h : p.w = false) (d : Byte) :
    p.onWrite2006 d = { p with t := d.extractLsb' 0 7 ++ p.t.extractLsb' 0 8, w := true } := by
  simp [Ppu.onWrite2006, h]

theorem Ppu.onWrite2006_second {p : Ppu} (h : p.w = true) (d : Byte) :
    p.onWrite2006 d = { p with t := p.t.extractLsb' 8 7 ++ d, v := p.t.extractLsb' 8 7 ++ d, w := false } := by
  simp [Ppu.onWrite2006, h]

/-- Settles O14: in either position of the toggle `T` is seven bits joined above a byte, one of the two parts its own. -/
theorem addressHook : Obligations.AddressHook := by
  intro p d
  refine ⟨fun hw => ?_, fun hw => ?_⟩
  · rw [Ppu.onWrite2006_first hw]
    exact ⟨BitVec.extractLsb'_append_eq_left, BitVec.extractLsb'_append_eq_right, rfl⟩
  · rw [Ppu.onWrite2006_second hw]
    exact ⟨BitVec.extractLsb'_append_eq_right, BitVec.extractLsb'_append_eq_left, rfl⟩

/-! The data port (R316 to R318). -/

/-- `V[13:0]` is `V` modulo 16384 (R318). -/
theorem Ppu.vramIndex_eq_mod (p : Ppu) : p.vramIndex = p.v.toNat % 16384 := BitVec.extractLsb'_toNat _ _ _

theorem Ppu.inc_toNat (p : Ppu) : p.inc.toNat = if p.ctrl.getLsbD 2 then 32 else 1 := by
  rw [Ppu.inc, apply_ite BitVec.toNat]
  rfl

/-- An access moves `V` on modulo 32768 (R318). -/
theorem Ppu.v_add_inc (p : Ppu) :
    p.v + p.inc = BitVec.ofNat 15 ((p.v.toNat + if p.ctrl.getLsbD 2 then 32 else 1) % 32768) := by
  rw [← p.inc_toNat, ← BitVec.toNat_add, BitVec.ofNat_toNat, BitVec.setWidth_eq]

/-- Settles O15: the hooks in natural numbers, and a read of the array after its write. -/
theorem dataHooks : Obligations.DataHooks := by
  intro p d
  dsimp only
  rw [← p.vramIndex_eq_mod, ← p.v_add_inc, Ppu.onWrite2007_vram]
  exact ⟨rfl, rfl, rfl, Memory.read_write_same _ _ _, fun a ha => Memory.read_write_ne _ ha.symm _⟩

end Sys2Proof.Machine
end

section
/-! SUPPORT. The frame render read by the byte (46_ppu_timing_engine.md R323): pixel `i` of the rendered list is the one its
column and line call for, and byte `i * 4 + k` of the buffer is component `k` of pixel `i`. -/

namespace Sys2Proof.Machine

theorem Ppu.getD_renderFrame {i : Nat} (h : i < fbPixels) (p : Ppu) :
    p.renderFrame.getD i Pixel.clear = if p.pixelOn (i % 256) (i / 256) then Pixel.white else Pixel.black := by
  simp [Ppu.renderFrame, h]

/-- The four bytes of a pixel that is white or black: the alpha byte is 0xFF in both (R323). -/
theorem Ppu.fbByte_of_pixel {p : Ppu} {i k : Nat} {on : Bool} (hk : k < 4)
    (h : p.fb.getD i Pixel.clear = if on then Pixel.white else Pixel.black) :
    p.fbByte (i * 4 + k) = if on = true ∨ k = 3 then 0xFF#8 else 0x00#8 := by
  have hpixel : (i * 4 + k) / 4 = i := by omega
  have hcomponent : (i * 4 + k) % 4 = k := by omega
  rw [Ppu.fbByte, hpixel, hcomponent, h]
  interval_cases k <;> cases on <;> rfl

/-- Row `r` and column `c` of the tile at `(tx, ty)` (R323). -/
theorem Ppu.pixelOn_tile {r c : Nat} (hr : r < 8) (hc : c < 8) (p : Ppu) (tx ty : Nat) :
    p.pixelOn (tx * 8 + c) (ty * 8 + r) =
      ((p.vram.read (p.patternBase + (p.vram.read (0x2000 + ty * 32 + tx)).toNat * 16 + r)).getLsbD (7 - c) ||
        (p.vram.read (p.patternBase + (p.vram.read (0x2000 + ty * 32 + tx)).toNat * 16 + r + 8)).getLsbD (7 - c)) := by
  have hx : (tx * 8 + c) / 8 = tx ∧ (tx * 8 + c) % 8 = c := by omega
  have hy : (ty * 8 + r) / 8 = ty ∧ (ty * 8 + r) % 8 = r := by omega
  rw [Ppu.pixelOn, hx.1, hx.2, hy.1, hy.2]

/-- Settles O48: byte `k` of the pixel at column `tx * 8 + c` of line `ty * 8 + r`. -/
theorem renderPaintsEveryPixel : Obligations.RenderPaintsEveryPixel := by
  intro p ty tx r c k hty htx hr hc hk
  dsimp only
  rw [← Ppu.patternBase, ← Ppu.pixelOn_tile hr hc]
  refine Ppu.fbByte_of_pixel hk ?_
  have hin : (ty * 8 + r) * 256 + (tx * 8 + c) < fbPixels := by unfold fbPixels; omega
  have hcolumn : ((ty * 8 + r) * 256 + (tx * 8 + c)) % 256 = tx * 8 + c := by omega
  have hline : ((ty * 8 + r) * 256 + (tx * 8 + c)) / 256 = ty * 8 + r := by omega
  rw [Ppu.getD_renderFrame hin, hcolumn, hline]

end Sys2Proof.Machine
end

section
/-! SUPPORT. The dot in full and runs of dots (46_ppu_timing_engine.md R302 to R309, R319): what one dot leaves in every
field it writes, and from it the period of the frame, the vblank window and the one NMI of an arming. -/

namespace Sys2Proof.Machine

/-! One dot. -/

/-- What a dot leaves in `PPUSTATUS`: the set and the clear coordinate differ, so at most one of the two events is due
(R305, R306). -/
theorem Ppu.tick_status_eq (p : Ppu) :
    p.tick.1.status = if p.sl = 241 ∧ p.dot = 1 then p.status ||| 0x80#8
      else if p.sl = 261 ∧ p.dot = 1 then p.status &&& 0x5F#8 else p.status := by
  have hevents : p.tick.1.status =
      if p.isAt 261 1 then (if p.isAt 241 1 then p.status ||| 0x80#8 else p.status) &&& 0x7F#8 &&& 0xDF#8
      else if p.isAt 241 1 then p.status ||| 0x80#8 else p.status := rfl
  rw [hevents]
  simp only [Ppu.isAt_iff]
  split_ifs with hclear hset
  · omega
  · exact BitVec.and_assoc ..
  · rfl
  · rfl

/-- What a dot leaves in `NMIOCC` (R305, R306). -/
theorem Ppu.tick_nmiOcc (p : Ppu) :
    p.tick.1.nmiOcc = if p.sl = 241 ∧ p.dot = 1 then true else if p.sl = 261 ∧ p.dot = 1 then false else p.nmiOcc := by
  have hevents : p.tick.1.nmiOcc = if p.isAt 261 1 then false else if p.isAt 241 1 then true else p.nmiOcc := rfl
  rw [hevents]
  simp only [Ppu.isAt_iff]
  split_ifs with hclear hset
  · omega
  · rfl
  · rfl
  · rfl

/-- The NMI test is made on `NMIOCC` as the events left it and on `NMIOUT` as it was (R302, R308). -/
theorem Ppu.tick_raised (p : Ppu) : p.tick.2 = (p.tick.1.nmiOcc && p.nmiOut) := rfl

/-- The seven fields a dot writes; every other field of the PPU it keeps (R302). -/
theorem Ppu.tick_frame (p : Ppu) :
    p.tick.1 = { p with
      fb := p.tick.1.fb, framesRaised := p.tick.1.framesRaised, status := p.tick.1.status, nmiOcc := p.tick.1.nmiOcc,
      nmiOut := p.tick.1.nmiOut, dot := p.tick.1.dot, sl := p.tick.1.sl } := rfl

/-- Settles O47: the dot field by field. -/
theorem ppuDot : Obligations.PpuDot := by
  intro s
  dsimp only
  rw [ppuStep, Ppu.tick_frame]
  simp only [Ppu.tick_fb, Ppu.tick_framesRaised, Ppu.tick_status_eq, Ppu.tick_nmiOut, Ppu.tick_raised, Ppu.tick_nmiOcc,
    Ppu.tick_dot, Ppu.tick_sl, Ppu.isAt_iff]

/-! The position in the frame (R300). -/

/-- A coordinate is known by its position. -/
theorem Ppu.coord_iff_position {p : Ppu} (hp : p.dot ≤ 340) {line dot : Nat} (hdot : dot ≤ 340) :
    p.sl = line ∧ p.dot = dot ↔ p.position = line * 341 + dot := by
  unfold Ppu.position
  omega

theorem Ppu.position_lt {p : Ppu} (h : p.sl ≤ 261 ∧ p.dot ≤ 340) : p.position < 89342 := by
  unfold Ppu.position
  omega

theorem countersInRange_ppuStep {s : State} (h : CountersInRange s) : CountersInRange (ppuStep s) := Ppu.tick_inRange h

theorem countersInRange_runDots (n : Nat) {s : State} (h : CountersInRange s) : CountersInRange (runDots n s) :=
  runDots_keeps (P := CountersInRange) (fun _ => countersInRange_ppuStep) n h

/-! The period of the frame (R304). -/

/-- A count of dots from the pulses: a whole frame for each `FRAME_READY` raised, and the positions passed since the last of
them, which is raised by the dot at (0, 0). -/
def Ppu.dotClock (p : Ppu) : Nat := p.framesRaised * 89342 + (p.position + 89341) % 89342

/-- Every dot adds one, also the dot at (0, 0): there the positions passed go back to none as a frame is raised. -/
theorem Ppu.tick_dotClock {p : Ppu} (h : p.sl ≤ 261 ∧ p.dot ≤ 340) : p.tick.1.dotClock = p.dotClock + 1 := by
  have hlt := Ppu.position_lt h
  have hframe : p.isAt 0 0 = true ↔ p.position = 0 :=
    (p.isAt_iff 0 0).trans (Ppu.coord_iff_position h.2 (Nat.zero_le _))
  unfold Ppu.dotClock
  rw [Ppu.tick_framesRaised, Ppu.tick_position h, if_congr hframe rfl rfl]
  split_ifs with hzero
  · rw [hzero]
    omega
  · omega

theorem runDots_dotClock (n : Nat) {s : State} (h : CountersInRange s) :
    (runDots n s).ppu.dotClock = s.ppu.dotClock + n := by
  induction n generalizing s with
  | zero => rw [runDots, Nat.add_zero]
  | succ n ih =>
    rw [runDots_succ, ih (countersInRange_ppuStep h), ppuStep_ppu, Ppu.tick_dotClock h, Nat.add_assoc, Nat.add_comm 1]

/-- Settles O49: 89342 dots bring the position back, so what they add to the count of dots is one frame raised. -/
theorem oneFrameEvery89342Dots : Obligations.OneFrameEvery89342Dots := by
  intro s h
  have hposition : (runDots 89342 s).ppu.position = s.ppu.position := by
    rw [runDots_position 89342 h, Nat.add_mod_right, Nat.mod_eq_of_lt (Ppu.position_lt h)]
  have hclock := runDots_dotClock 89342 h
  obtain ⟨hsl, hdot⟩ := (Ppu.coord_iff_position (countersInRange_runDots 89342 h).2 h.2).mpr hposition
  unfold Ppu.dotClock at hclock
  rw [hposition] at hclock
  exact ⟨hsl, hdot, by omega⟩

/-! The vblank window (R305, R306). -/

/-- A dot sets the vblank flag at the position of (241, 1), clears it at that of (261, 1), and else keeps it. -/
theorem Ppu.tick_vblank {p : Ppu} (h : p.sl ≤ 261 ∧ p.dot ≤ 340) :
    p.tick.1.status.getLsbD 7 =
      if p.position = 82182 then true else if p.position = 89002 then false else p.status.getLsbD 7 := by
  have hset : p.sl = 241 ∧ p.dot = 1 ↔ p.position = 82182 := Ppu.coord_iff_position h.2 (by decide)
  have hclear : p.sl = 261 ∧ p.dot = 1 ↔ p.position = 89002 := Ppu.coord_iff_position h.2 (by decide)
  rw [Ppu.tick_status_eq, if_congr hset rfl (if_congr hclear rfl rfl)]
  split_ifs <;> simp

/-- Settles O50, by induction on the dots: after `n` dots of the frame the dot at position `n` is next. -/
theorem vblankWindow : Obligations.VblankWindow := by
  intro s n hsl hdot hstatus hn
  have hrange : CountersInRange s := by unfold CountersInRange; omega
  induction n with
  | zero => exact hstatus
  | succ n ih =>
    have hposition : (runDots n s).ppu.position = n := by
      rw [runDots_position n hrange, Ppu.position, hsl, hdot, Nat.zero_mul, Nat.zero_add,
        Nat.mod_eq_of_lt (by omega)]
    rw [runDots_add n 1, runDots_succ, runDots, ppuStep_ppu,
      Ppu.tick_vblank (countersInRange_runDots n hrange), hposition, ih (by omega)]
    split_ifs with hset hclear
    · exact (decide_eq_true (by omega)).symm
    · exact (decide_eq_false (by omega)).symm
    · exact decide_eq_decide.mpr (by omega)

/-! The NMI of an arming (R308, R319). -/

/-- From `s` to `t` no NMI was raised, or one was, which the arming of `s` allowed and used up. -/
def AtMostOneNmi (s t : State) : Prop :=
  t.cpu.iq = s.cpu.iq ∧ t.ppu.nmiOut = s.ppu.nmiOut ∨
    t.cpu.iq = s.cpu.iq ++ [.nmi] ∧ s.ppu.nmiOut = true ∧ t.ppu.nmiOut = false

/-- A dot that raises an NMI was armed by `NMIOUT`, and disarms it (R308). -/
theorem ppuStep_raises {s : State} (h : s.ppu.tick.2 = true) :
    (ppuStep s).cpu.iq = s.cpu.iq ++ [.nmi] ∧ s.ppu.nmiOut = true ∧ (ppuStep s).ppu.nmiOut = false := by
  rw [ppuStep_cpu, ppuStep_ppu, Ppu.tick_nmiOut, h]
  exact ⟨rfl, Ppu.nmiOut_of_tick h, rfl⟩

theorem ppuStep_raises_none {s : State} (h : s.ppu.tick.2 = false) :
    (ppuStep s).cpu.iq = s.cpu.iq ∧ (ppuStep s).ppu.nmiOut = s.ppu.nmiOut := by
  rw [ppuStep_cpu, ppuStep_ppu, Ppu.tick_nmiOut, h]
  exact ⟨rfl, rfl⟩

/-- One more dot: once an NMI was raised, `NMIOUT` is 0 and the dot raises none. -/
theorem AtMostOneNmi.ppuStep {s t : State} (h : AtMostOneNmi s t) : AtMostOneNmi s (ppuStep t) := by
  cases hraised : t.ppu.tick.2 with
  | false =>
    obtain ⟨hiq, hout⟩ := ppuStep_raises_none hraised
    unfold AtMostOneNmi
    rwa [hiq, hout]
  | true =>
    obtain ⟨hiq, harmed, hdisarmed⟩ := ppuStep_raises hraised
    rcases h with ⟨hiq', hout'⟩ | ⟨-, -, hout'⟩
    · exact .inr ⟨hiq' ▸ hiq, hout' ▸ harmed, hdisarmed⟩
    · rw [hout'] at harmed
      cases harmed

theorem atMostOneNmi_runDots (n : Nat) (s : State) : AtMostOneNmi s (runDots n s) :=
  runDots_keeps (fun _ h => h.ppuStep) n (.inl ⟨rfl, rfl⟩)

/-- With `NMIOUT` 0 no number of dots raises an NMI (R308). -/
theorem runDots_iq_of_disarmed (n : Nat) {s : State} (h : s.ppu.nmiOut = false) : (runDots n s).cpu.iq = s.cpu.iq := by
  rcases atMostOneNmi_runDots n s with ⟨hiq, -⟩ | ⟨-, harmed, -⟩
  · exact hiq
  · rw [h] at harmed
    cases harmed

/-- An armed dot with `NMIOCC` 1 raises the NMI, unless its own event clears `NMIOCC` (R306, R308). -/
theorem Ppu.tick_raises {p : Ppu} (hout : p.nmiOut = true) (hocc : p.nmiOcc = true) (h : ¬(p.sl = 261 ∧ p.dot = 1)) :
    p.tick.2 = true := by
  rw [Ppu.tick_raised, Ppu.tick_nmiOcc, hout, hocc, if_neg h, ite_self]
  rfl

/-- Settles O51: every dot keeps `AtMostOneNmi`; where the first dot raises the NMI, the others are disarmed. -/
theorem oneNmiPerArming : Obligations.OneNmiPerArming := by
  intro s n
  refine ⟨atMostOneNmi_runDots n s, fun hout hocc hclear hn => ?_⟩
  obtain ⟨m, rfl⟩ := Nat.exists_eq_add_of_le' hn
  obtain ⟨hiq, -, hdisarmed⟩ := ppuStep_raises (Ppu.tick_raises hout hocc hclear)
  rw [runDots_succ, runDots_iq_of_disarmed m hdisarmed, hiq]

end Sys2Proof.Machine
end

section
/-! SUPPORT. The bus (47_bus_sync_input.md R341, R342): the device state each hook of a write leaves, by address. -/

namespace Sys2Proof.Machine

/-- Settles O11: the statement is the read's own case list, with the byte of `MEM` written out. -/
theorem busReads : Obligations.BusReads := fun _ _ => rfl

/-- Three of the four hooks work on the PPU (R342). -/
theorem writeHook_ppu (a : Word) (v : Byte) (s : State) :
    (writeHook a v s).ppu = if a = 0x2000#16 then s.ppu.onWrite2000 v
      else if a = 0x2006#16 then s.ppu.onWrite2006 v
      else if a = 0x2007#16 then s.ppu.onWrite2007 v
      else s.ppu := by
  unfold writeHook
  split_ifs <;> rfl

/-- The hook of 0x4016 is the only one that works on the input device (R342). -/
theorem writeHook_pad (a : Word) (v : Byte) (s : State) :
    (writeHook a v s).pad = if a = 0x4016#16 then s.pad.onWrite4016 v else s.pad := by
  by_cases h : a = 0x4016#16
  · subst h
    rfl
  · unfold writeHook
    rw [if_neg h, if_neg h]
    split_ifs <;> rfl

/-- Settles O12: the store, then the hook on the state it left, which the store did not touch outside `MEM`. -/
theorem busWrites : Obligations.BusWrites := by
  intro a v s
  have hmem := memWrite_mem a v s
  refine ⟨?_, .of_write hmem, memWrite_cpu a v s, memWrite_inbox a v s, writeHook_ppu a v _, writeHook_pad a v _⟩
  rw [State.peek, hmem, Memory.read_write_same]

end Sys2Proof.Machine
end

section
/-! SUPPORT. The controller port and the buttons (47_bus_sync_input.md R349 to R352): a read as a shift, what a run of reads
leaves in each bit of `SR`, and a button event as the change of one bit of `BTN`. -/

namespace Sys2Proof.Machine

/-! The port (R349, R350). -/

theorem bitByte_toNat (b : Bool) : (bitByte b).toNat = b.toNat := by cases b <;> rfl

/-- Bit 0 of a byte is the byte modulo 2. -/
theorem getLsbD_zero_toNat (v : Byte) : (v.getLsbD 0).toNat = v.toNat % 2 := by
  rw [BitVec.getLsbD, Nat.toNat_testBit, pow_zero, Nat.div_one]

/-- Settles O16: a read shifts right with the bit 1, so `SR` is halved and 128 added. -/
theorem controllerHooks : Obligations.ControllerHooks := by
  intro q d
  refine ⟨rfl, (bitByte_toNat _).trans (getLsbD_zero_toNat _), ?_⟩
  exact congrArg (fun sr => { q with sr := sr }) (ushiftRight_one_or_bit q.sr true)

/-! A run of reads (R351). -/

/-- The input device after `n` reads of 0x4016. -/
def Pad.afterReads (n : Nat) (q : Pad) : Pad := (fun p : Pad => p.onRead4016.2)^[n] q

theorem Pad.afterReads_succ (n : Nat) (q : Pad) : q.afterReads (n + 1) = (q.afterReads n).onRead4016.2 :=
  Function.iterate_succ_apply' ..

theorem Pad.afterReads_btn (n : Nat) (q : Pad) : (q.afterReads n).btn = q.btn := by
  induction n with
  | zero => rfl
  | succ n ih => rw [Pad.afterReads_succ, Pad.onRead4016_btn, ih]

theorem Pad.afterReads_latch (n : Nat) (q : Pad) : (q.afterReads n).latch = q.latch := by
  induction n with
  | zero => rfl
  | succ n ih => rw [Pad.afterReads_succ, Pad.onRead4016_latch, ih]

/-- After one read, bit `k` is the bit above it, and bit 7 is 1 (R350). -/
theorem Pad.onRead4016_sr_getLsbD {k : Nat} (hk : k < 8) (q : Pad) :
    q.onRead4016.2.sr.getLsbD k = if k + 1 < 8 then q.sr.getLsbD (k + 1) else true := by
  have hentered : (0x80#8).getLsbD k = decide (k = 7) := by interval_cases k <;> rfl
  rw [Pad.onRead4016_sr, BitVec.getLsbD_or, BitVec.getLsbD_ushiftRight, hentered, Nat.add_comm 1]
  split_ifs with h
  · rw [decide_eq_false (by omega), Bool.or_false]
  · rw [decide_eq_true (by omega), Bool.or_true]

/-- After `n` reads, bit `k` is the bit `n` places above it, and 1 where there is none (R350). -/
theorem Pad.afterReads_sr_getLsbD (n : Nat) {k : Nat} (hk : k < 8) (q : Pad) :
    (q.afterReads n).sr.getLsbD k = if n + k < 8 then q.sr.getLsbD (n + k) else true := by
  induction n generalizing k with
  | zero => rw [Nat.zero_add, if_pos hk]; rfl
  | succ n ih =>
    rw [Pad.afterReads_succ, Pad.onRead4016_sr_getLsbD hk, Nat.succ_add_eq_add_succ]
    by_cases h : k + 1 < 8
    · rw [if_pos h, ih h]
    · rw [if_neg h, if_neg (by omega)]

/-- Settles O17: the strobe loads `SR` from `BTN`, and the read after `n` others answers what then stands in bit 0. -/
theorem buttonsReadInOrder : Obligations.ButtonsReadInOrder := by
  intro q n
  have hbits {k : Nat} (hk : k < 8) := Pad.afterReads_sr_getLsbD n hk (q.onWrite4016 0x01#8)
  refine ⟨?_, Pad.afterReads_btn n _, Pad.afterReads_latch n _, fun hn => ?_⟩
  · exact (congrArg bitByte (hbits (by decide))).trans (apply_ite bitByte _ _ _)
  · refine BitVec.eq_of_getLsbD_eq fun k hk => (hbits hk).trans ?_
    have hone : (0xFF#8).getLsbD k = true := by interval_cases k <;> rfl
    rw [if_neg (by omega), hone]

/-! The button events (R352). -/

/-- The mask of a button has its one bit set. -/
theorem buttonMask_getLsbD : ∀ b : Fin 8, ∀ n < 8, (buttonMask b).getLsbD n = decide (n = b.val) := by decide

/-- A press sets the button's bit, and the continuous latch reseeds `SR` with the new `BTN`. -/
theorem Pad.keydown_eq (b : Fin 8) (q : Pad) :
    q.keydown b = { q with
      btn := q.btn ||| buttonMask b, sr := if q.latch then q.btn ||| buttonMask b else q.sr } := by
  unfold Pad.keydown Pad.reseed
  split_ifs <;> rfl

/-- A release clears the button's bit, and the continuous latch reseeds `SR` with the new `BTN`. -/
theorem Pad.keyup_eq (b : Fin 8) (q : Pad) :
    q.keyup b = { q with
      btn := q.btn &&& ~~~buttonMask b, sr := if q.latch then q.btn &&& ~~~buttonMask b else q.sr } := by
  unfold Pad.keyup Pad.reseed
  split_ifs <;> rfl

/-- Settles O18: the new `BTN` differs from the old in the one bit of the mask. -/
theorem buttonEvents : Obligations.ButtonEvents := by
  intro q b
  rw [Pad.keydown_eq, Pad.keyup_eq]
  refine ⟨fun n hn => ?_, fun n hn => ?_, rfl, rfl, rfl, rfl⟩
  · rw [BitVec.getLsbD_or, buttonMask_getLsbD b n hn, Bool.or_comm]
  · rw [BitVec.getLsbD_and, BitVec.getLsbD_not, buttonMask_getLsbD b n hn, decide_eq_true hn, Bool.true_and,
      Bool.and_comm]

end Sys2Proof.Machine
end

section
/-! SUPPORT. The host's events and the lock of the dots to the cycles (47_bus_sync_input.md R352, R355 to R357;
60_exceptions.md R407): what a delivery does and what it keeps, and the coordinate after a system step. -/

namespace Sys2Proof.Machine

/-! The host's events (R352, R357, R407). -/

theorem irqRequest_eq (s : State) :
    irqRequest s =
      { s with cpu := { s.cpu with iq := if s.cpu.flagI then s.cpu.iq else s.cpu.iq ++ [.irq] } } := by
  unfold irqRequest
  split_ifs <;> rfl

theorem deliverInbox_nil {s : State} (h : s.inbox = []) : deliverInbox s = s := by
  rw [deliverInbox, h]

theorem deliverInbox_cons {s : State} {now : List HostEvent} {later : List (List HostEvent)}
    (h : s.inbox = now :: later) : deliverInbox s = deliverAll now { s with inbox := later } := by
  rw [deliverInbox, h]

theorem deliverAll_eq_foldl (events : List HostEvent) (s : State) :
    deliverAll events s = events.foldl (fun u e => deliver e u) s := by
  induction events generalizing s with
  | nil => rfl
  | cons e rest ih => exact ih (deliver e s)

/-- What no host event touches, of what the dots and the queue of batches depend on. -/
def HostKept (s t : State) : Prop := t.ppu = s.ppu ∧ t.cpu.cyc = s.cpu.cyc ∧ t.inbox = s.inbox

theorem deliver_hostKept (e : HostEvent) (s : State) : HostKept s (deliver e s) := by
  cases e with
  | keydown b | keyup b => exact ⟨rfl, rfl, rfl⟩
  | irqRequest =>
    rw [deliver, irqRequest_eq]
    exact ⟨rfl, rfl, rfl⟩

theorem deliverAll_hostKept (events : List HostEvent) (s : State) : HostKept s (deliverAll events s) := by
  induction events generalizing s with
  | nil => exact ⟨rfl, rfl, rfl⟩
  | cons e rest ih =>
    obtain ⟨hppu, hcyc, hinbox⟩ := deliver_hostKept e s
    obtain ⟨hppu', hcyc', hinbox'⟩ := ih (deliver e s)
    exact ⟨hppu'.trans hppu, hcyc'.trans hcyc, hinbox'.trans hinbox⟩

/-- A delivery takes the first batch from the queue, and keeps the PPU and `CYC` (R357). -/
theorem deliverInbox_hostKept (s : State) : HostKept { s with inbox := s.inbox.tail } (deliverInbox s) := by
  cases hin : s.inbox with
  | nil =>
    rw [deliverInbox_nil hin]
    exact ⟨rfl, rfl, hin⟩
  | cons now later =>
    rw [deliverInbox_cons hin]
    exact deliverAll_hostKept now _

/-- Settles O60: a delivery is the fold of the events of the first batch, each with the statement's effect; the CPU step and
the dots after it do not touch the queue. -/
theorem hostEventsPrecedeTheStep : Obligations.HostEventsPrecedeTheStep := by
  unfold Obligations.HostEventsPrecedeTheStep
  intro effect
  have hdeliver : (fun u e => deliver e u) = effect := by
    funext u e
    cases e with
    | keydown b => exact congrArg (fun q => { u with pad := q }) (Pad.keydown_eq b u.pad)
    | keyup b => exact congrArg (fun q => { u with pad := q }) (Pad.keyup_eq b u.pad)
    | irqRequest => exact irqRequest_eq u
  refine ⟨fun s h => deliverInbox_nil h, fun s now later h => ?_, fun s h => step_of_running h, fun s t hstep => ?_⟩
  · rw [deliverInbox_cons h, deliverAll_eq_foldl, hdeliver]
  · cases hhalt : s.cpu.halt with
    | true => rw [step_halted hhalt] at hstep; cases hstep
    | false =>
      obtain ⟨u, n, path, hnext⟩ := step_running hhalt
      rw [hnext] at hstep
      cases hstep
      obtain ⟨-, -, hinbox⟩ := path.keeps_timing
      obtain ⟨-, -, htail⟩ := deliverInbox_hostKept s
      rw [runDots_inbox]
      exact hinbox.trans htail

/-! The lock (R355, R356). -/

/-- Neither bus accesses nor moves of the CPU turn `CYC` back (R33). -/
theorem BusPath.cyc_le {s t : State} (path : BusPath s t) : s.cpu.cyc ≤ t.cpu.cyc := by
  induction path with
  | start => exact le_rfl
  | read a _ ih => rwa [memRead_cpu]
  | write a v _ ih => rwa [memWrite_cpu]
  | move f _ hf ih =>
    obtain ⟨-, hcyc, -⟩ := hf
    exact ih.trans hcyc

/-- A running machine takes some cycles and then three dots for each of them, from the coordinate where it stood (R356). -/
theorem step_dots {s : State} (h : s.cpu.halt = false) :
    ∃ u n, u.ppu.sl = s.ppu.sl ∧ u.ppu.dot = s.ppu.dot ∧ u.cpu.cyc = s.cpu.cyc + n ∧
      step s = .next (runDots (3 * n) u) := by
  obtain ⟨u, path, hcpu⟩ := cpuStep_next (deliverInbox s)
  obtain ⟨hppu, hcyc, -⟩ := deliverInbox_hostKept s
  obtain ⟨⟨hsl, hdot, -⟩, -⟩ := path.keeps_timing
  obtain ⟨n, hn⟩ := Nat.exists_eq_add_of_le path.cyc_le
  exact ⟨u.nonePending, n, hsl.trans (congrArg Ppu.sl hppu), hdot.trans (congrArg Ppu.dot hppu),
    hn.trans (congrArg (· + n) hcyc), (step_of_running h).trans (systemStep_of_cpuStep n hcpu hn)⟩

/-- Settles O56: `n` cycles move both sides of the lock by `3 * n`, modulo the dots of a frame. -/
theorem stepKeepsDotsLocked : Obligations.StepKeepsDotsLocked := by
  rintro s t hrange ⟨hseven, hlock⟩ hstep
  cases hhalt : s.cpu.halt with
  | true => rw [step_halted hhalt] at hstep; cases hstep
  | false =>
    obtain ⟨u, n, hsl, hdot, hcyc, hnext⟩ := step_dots hhalt
    rw [hnext] at hstep
    cases hstep
    have hposition := runDots_position (3 * n) (s := u) (by rw [hsl, hdot]; exact hrange)
    have hcyc' : (runDots (3 * n) u).cpu.cyc = s.cpu.cyc + n := by rw [runDots_cpu, hcyc]
    unfold Ppu.position at hposition
    rw [hsl, hdot, hlock, Nat.mod_add_mod] at hposition
    unfold DotsLocked
    rw [hcyc', hposition]
    refine ⟨by omega, congrArg (· % 89342) ?_⟩
    omega

end Sys2Proof.Machine
end

section
/-! SUPPORT. Interrupts (60_exceptions.md R406, R407, R410, R411, R416): the service is the entry through the vector of its
kind, and RTI pulls the three cells that an entry pushed. -/

namespace Sys2Proof.Machine

/-! The service (R410). -/

/-- The service leaves what its entry leaves, but for `CYC` and the emptied queue (R410). -/
theorem serviceInterrupt_eq (k : IntKind) (s : State) :
    serviceInterrupt k s = (enterVector s.cpu.pc (vectorOf k) s).mapCpu fun c => { c with cyc := c.cyc + 7, iq := [] } :=
  rfl

/-- The vector of each kind as an address (R413). -/
theorem vectorOf_eq_ite (k : IntKind) : vectorOf k = if k = .nmi then 0xFFFA#16 else 0xFFFE#16 := by
  cases k <;> rfl

/-- Settles O39: the service is an entry with `PC` as its return address, and its 7 cycles make 21 dots. -/
theorem interruptService : Obligations.InterruptService := by
  intro s k rest hiq
  have hcpuStep := cpuStep_pending hiq
  obtain ⟨hhigh, hlow, hstatus, hstored, hdevices, hcpu⟩ := enterVector_entered s.cpu.pc k s
  refine ⟨_, hcpuStep, systemStep_of_cpuStep 7 hcpuStep (serviceInterrupt_cyc k s), ?_⟩
  rw [serviceInterrupt_eq, ← vectorOf_eq_ite]
  exact ⟨hhigh, hlow, hstatus, hstored, hdevices, congrArg (fun c => { c with cyc := c.cyc + 7, iq := [] }) hcpu⟩

/-! The return (R411, R416). -/

/-- The bits forced by the push of `P` do not outlast its pull. -/
theorem pulledStatus_pushedStatus : ∀ p : Byte, pulledStatus (pushedStatus p) = pulledStatus p := by decide

/-- An entry moves `SP` and no other register. -/
theorem Entered.reg {ret vec : Word} {s t : State} (h : Entered ret vec s t) {r : Reg} (hr : r ∉ [Reg.sp]) :
    t.cpu.reg r = s.cpu.reg r := by
  rw [h.cpu]
  cases r with
  | a | x | y => rfl
  | sp => exact absurd (List.mem_singleton_self _) hr

/-- RTI pulls the three cells that the entry pushed, wherever `SP` stood, so it resumes at the entry's return address. What
the entry's end did to `CYC` and the queue does not matter to it (R416). -/
theorem Entered.rti_resumes {ret vec : Word} {s u : State} (h : Entered ret vec s u) {f : Cpu → Cpu}
    (hf : ∀ c r, (f c).reg r = c.reg r) :
    ∃ t, exec .rti (u.mapCpu f) = .next t ∧ t.cpu.pc = ret ∧ t.cpu.p = pulledStatus s.cpu.p ∧
      ∀ r, t.cpu.reg r = s.cpu.reg r := by
  obtain ⟨-, -, -, t, ht, hp, ⟨hpc, -⟩, hsp, ⟨hregs, -, -⟩, -⟩ := rtiRestoresStatusAndPc .rti (u.mapCpu f) rfl
  have hcells (n : Byte) : (u.mapCpu f).cpu.sp + n = s.cpu.sp - (3#8 - n) := by
    rw [show (u.mapCpu f).cpu.sp = s.cpu.sp - 3#8 from (hf _ .sp).trans (congrArg Cpu.sp h.cpu), sub_sub_eq_add_sub,
      sub_add_eq_add_sub]
  have htop : (u.mapCpu f).cpu.sp + 3#8 = s.cpu.sp := (hcells 3#8).trans (BitVec.sub_zero _)
  rw [hcells] at hp
  rw [htop] at hsp
  rw [htop, hcells, ← joinBytes_eq_ofNat] at hpc
  refine ⟨t, ht, ?_, ?_, fun r => ?_⟩
  · calc t.cpu.pc
      _ = joinBytes (u.peek (stackAddr s.cpu.sp)) (u.peek (stackAddr (s.cpu.sp - 1#8))) := hpc
      _ = ret := by rw [h.high, h.low, joinBytes_hi_lo]
  · calc t.cpu.p
      _ = pulledStatus (u.peek (stackAddr (s.cpu.sp - 2#8))) := hp
      _ = pulledStatus s.cpu.p := by rw [h.status, pulledStatus_pushedStatus]
  · by_cases hr : r ∈ [Reg.sp]
    · obtain rfl := List.mem_singleton.mp hr
      exact hsp
    · exact (hregs r hr).trans ((hf _ r).trans (h.reg hr))

/-- Settles O42: the service and BRK are both entries, with `PC` and with `PC + 2` as the address they push. -/
theorem rtiUndoesAnEntry : Obligations.RtiUndoesAnEntry := by
  refine ⟨fun s k => ?_, fun s => ?_⟩
  · rw [serviceInterrupt_eq]
    exact (enterVector_entered s.cpu.pc k s).rti_resumes fun _ r => by cases r <;> rfl
  · obtain ⟨t, h⟩ := (enterVector_entered (s.cpu.pc + 2#16) .irq s).rti_resumes
      (f := fun c => { c with cyc := c.cyc + baseCycles 0x00#8 }) fun _ r => by cases r <;> rfl
    exact ⟨_, t, exec_brk s, h⟩

/-! Requests (R406, R407). -/

/-- Settles O41: a request reads `P.I`, and raises IRQ only while it is 0. -/
theorem interruptRequests : Obligations.InterruptRequests := fun _ _ =>
  ⟨rfl, fun hclear => if_neg (by simp [hclear]), fun hset => if_pos hset⟩

end Sys2Proof.Machine
end
